-- ==== Sys2Proof/Word.lean ====
section
/-! DEFINITION. The machine word of the block and the text type of its renderings. -/

namespace Sys2Proof

/-- An instruction word or a status snapshot: 32 bits (00_scope R6, 10_state R31, R34). -/
abbrev Word := BitVec 32

/-- One byte of a program image (20_memory R62). -/
abbrev Byte := BitVec 8

/-- A rendered text: the characters of one ASCII string (42_render R200, R201). -/
abbrev Text := List Char

end Sys2Proof
end

