-- ==== Sys2Proof/Syntax.lean ====
section
/-! DEFINITION. The instruction syntax: the 40 rows of the opcode table (30_encoding R111), the instructions with their
operand fields, the decoded record of 17 variants (10_state R32) and U1's failure reasons (60_exceptions R281). -/

namespace Sys2Proof

/-- The op of ALU_REG and ALU_IMM (10_state R32, 30_encoding R83). -/
inductive AluOp
  | add | sub | and | or | mov | lsh | rsh
deriving DecidableEq, Repr, Inhabited

/-- The op of ALU_STAGE (10_state R32, 30_encoding R83). -/
inductive StageOp
  | inc | dec | rst
deriving DecidableEq, Repr, Inhabited

/-- The condition of BX (10_state R32, 30_encoding R83). -/
inductive BxCond
  | direct | zero | ovf
deriving DecidableEq, Repr, Inhabited

/-- The addressing of BX: `imm` 0, `reg` 1 (10_state R31, R32). -/
inductive BxMode
  | imm | reg
deriving DecidableEq, Repr, Inhabited

/-- The comparison of B: `l` less-than, `ge` greater-or-equal (30_encoding R83). -/
inductive BCmp
  | l | ge
deriving DecidableEq, Repr, Inhabited

/-- The comparison of BS: less-than, greater-or-equal, less-or-equal (30_encoding R83). -/
inductive BsCmp
  | lt | ge | le
deriving DecidableEq, Repr, Inhabited

/-- The kind of END (10_state R32). -/
inductive EndKind
  | wake | sleep
deriving DecidableEq, Repr, Inhabited

/-- The decoded record: the closed tagged union of 17 variants, in the order of their tags (10_state R32).
BX carries both target fields, whichever the mode leaves unused (41_decode_alu_branch section 2.1). -/
inductive Decoded
  | wrReg (periph : BitVec 2) (addr : BitVec 8) (low high : BitVec 5) (data : BitVec 8)
  | rdReg (periph : BitVec 2) (addr : BitVec 8) (low high : BitVec 5)
  | i2cRw (subaddr data : BitVec 8) (low high : BitVec 3) (sel : BitVec 4) (rw : BitVec 1)
  | delay (cycles : BitVec 16)
  | adc (dreg : BitVec 2) (sarSel : BitVec 1) (mux : BitVec 4)
  | st (dreg sreg : BitVec 2) (offset : BitVec 11)
  | aluReg (op : AluOp) (dreg sreg treg : BitVec 2)
  | aluImm (op : AluOp) (dreg sreg : BitVec 2) (imm : BitVec 16)
  | aluStage (op : StageOp) (imm : BitVec 8)
  | bx (cond : BxCond) (mode : BxMode) (dreg : BitVec 2) (addr : BitVec 11)
  | b (cmp : BCmp) (mag : BitVec 7) (sign : BitVec 1) (imm : BitVec 16)
  | bs (cmp : BsCmp) (mag : BitVec 7) (sign : BitVec 1) (imm : BitVec 8)
  | endProgram (kind : EndKind) (cycleSel : BitVec 4)
  | tsens (dreg : BitVec 2) (waitDelay : BitVec 14)
  | halt
  | ld (dreg sreg : BitVec 2) (offset : BitVec 11)
  | label (id : BitVec 16)
deriving DecidableEq, Repr, Inhabited

/-- One instruction: a row of spec/opcode_table.json with the operand fields its variant has (10_state R32).
The six BX rows carry both target fields of the record, `dreg` and `addr`: U1 reports both, and the one the
addressing mode leaves unused is 0 in a canonical word (30_encoding R104, 92 D9). -/
inductive Instr
  | wrReg (periph : BitVec 2) (addr : BitVec 8) (low high : BitVec 5) (data : BitVec 8)
  | rdReg (periph : BitVec 2) (addr : BitVec 8) (low high : BitVec 5)
  | i2cRw (subaddr data : BitVec 8) (low high : BitVec 3) (sel : BitVec 4) (rw : BitVec 1)
  | delay (cycles : BitVec 16)
  | adc (dreg : BitVec 2) (sarSel : BitVec 1) (mux : BitVec 4)
  | st (dreg sreg : BitVec 2) (offset : BitVec 11)
  | addr (dreg sreg treg : BitVec 2)
  | subr (dreg sreg treg : BitVec 2)
  | andr (dreg sreg treg : BitVec 2)
  | orr (dreg sreg treg : BitVec 2)
  | movr (dreg sreg treg : BitVec 2)
  | lshr (dreg sreg treg : BitVec 2)
  | rshr (dreg sreg treg : BitVec 2)
  | addi (dreg sreg : BitVec 2) (imm : BitVec 16)
  | subi (dreg sreg : BitVec 2) (imm : BitVec 16)
  | andi (dreg sreg : BitVec 2) (imm : BitVec 16)
  | ori (dreg sreg : BitVec 2) (imm : BitVec 16)
  | movi (dreg sreg : BitVec 2) (imm : BitVec 16)
  | lshi (dreg sreg : BitVec 2) (imm : BitVec 16)
  | rshi (dreg sreg : BitVec 2) (imm : BitVec 16)
  | stageInc (imm : BitVec 8)
  | stageDec (imm : BitVec 8)
  | stageRst (imm : BitVec 8)
  | bxr (dreg : BitVec 2) (addr : BitVec 11)
  | bxi (dreg : BitVec 2) (addr : BitVec 11)
  | bxzr (dreg : BitVec 2) (addr : BitVec 11)
  | bxzi (dreg : BitVec 2) (addr : BitVec 11)
  | bxfr (dreg : BitVec 2) (addr : BitVec 11)
  | bxfi (dreg : BitVec 2) (addr : BitVec 11)
  | bl (mag : BitVec 7) (sign : BitVec 1) (imm : BitVec 16)
  | bge (mag : BitVec 7) (sign : BitVec 1) (imm : BitVec 16)
  | jumpsLt (mag : BitVec 7) (sign : BitVec 1) (imm : BitVec 8)
  | jumpsGe (mag : BitVec 7) (sign : BitVec 1) (imm : BitVec 8)
  | jumpsLe (mag : BitVec 7) (sign : BitVec 1) (imm : BitVec 8)
  | wake
  | sleepCycleSel (cycleSel : BitVec 4)
  | tsens (dreg : BitVec 2) (waitDelay : BitVec 14)
  | halt
  | ld (dreg sreg : BitVec 2) (offset : BitVec 11)
  | label (id : BitVec 16)
deriving DecidableEq, Repr

/-- A row of the opcode table: one variant with its selector fixed (00_scope R12, 30_encoding R111). -/
inductive Row
  | wrReg | rdReg | i2cRw | delay | adc | st
  | addr | subr | andr | orr | movr | lshr | rshr
  | addi | subi | andi | ori | movi | lshi | rshi
  | stageInc | stageDec | stageRst
  | bxr | bxi | bxzr | bxzi | bxfr | bxfi
  | bl | bge | jumpsLt | jumpsGe | jumpsLe
  | wake | sleepCycleSel | tsens | halt | ld | label
deriving DecidableEq, Repr

/-- The 40 rows, in the table's order. -/
def Row.all : List Row :=
  [.wrReg, .rdReg, .i2cRw, .delay, .adc, .st,
   .addr, .subr, .andr, .orr, .movr, .lshr, .rshr,
   .addi, .subi, .andi, .ori, .movi, .lshi, .rshi,
   .stageInc, .stageDec, .stageRst,
   .bxr, .bxi, .bxzr, .bxzi, .bxfr, .bxfi,
   .bl, .bge, .jumpsLt, .jumpsGe, .jumpsLe,
   .wake, .sleepCycleSel, .tsens, .halt, .ld, .label]

/-- The row an instruction belongs to. -/
def Instr.row : Instr → Row
  | .wrReg .. => .wrReg
  | .rdReg .. => .rdReg
  | .i2cRw .. => .i2cRw
  | .delay .. => .delay
  | .adc .. => .adc
  | .st .. => .st
  | .addr .. => .addr
  | .subr .. => .subr
  | .andr .. => .andr
  | .orr .. => .orr
  | .movr .. => .movr
  | .lshr .. => .lshr
  | .rshr .. => .rshr
  | .addi .. => .addi
  | .subi .. => .subi
  | .andi .. => .andi
  | .ori .. => .ori
  | .movi .. => .movi
  | .lshi .. => .lshi
  | .rshi .. => .rshi
  | .stageInc .. => .stageInc
  | .stageDec .. => .stageDec
  | .stageRst .. => .stageRst
  | .bxr .. => .bxr
  | .bxi .. => .bxi
  | .bxzr .. => .bxzr
  | .bxzi .. => .bxzi
  | .bxfr .. => .bxfr
  | .bxfi .. => .bxfi
  | .bl .. => .bl
  | .bge .. => .bge
  | .jumpsLt .. => .jumpsLt
  | .jumpsGe .. => .jumpsGe
  | .jumpsLe .. => .jumpsLe
  | .wake => .wake
  | .sleepCycleSel .. => .sleepCycleSel
  | .tsens .. => .tsens
  | .halt => .halt
  | .ld .. => .ld
  | .label .. => .label

/-- U1's failure reasons (60_exceptions R281, codes 1 to 5 in this order). -/
inductive Reason
  | badOpcode | badSubopcode | badSelector | badValue | nonzeroUnused
deriving DecidableEq, Repr

/-- The six states a documented status pattern maps to (44_state_decoder R261). Unknown is not among them (R261 (g)). -/
inductive DocState
  | idle | running | halted | sleeping | waking | done
deriving DecidableEq, Repr

/-- The seven states U3 answers (10_state R35): a documented state, or Unknown for a pattern outside the table. -/
inductive PowerState
  | documented (d : DocState)
  | unknown
deriving DecidableEq, Repr

end Sys2Proof
end

