-- ==== Sys2Proof/Config.lean ====
section
/-! DEFINITION. What a build of the block fixes (00_scope R7) and the free values the spec leaves open. A free value is an
opaque constant: nothing constrains it, so a claim about it holds whatever it is. -/

namespace Sys2Proof

/-- The named parameters of 00_scope R7: constants of a built block, taken as arguments by the unit functions
(10_state R43, 70_reset_and_hazards R311). The constraints on them are `Params.Valid` (Machine/Build.lean). -/
structure Params where
  /-- `UNUSED_BITS_STRICT` (30_encoding R104, 92 D4). -/
  unusedBitsStrict : Bool
  /-- `PERIPH_BASE`, the lookup from a peripheral select to its region's base (20_memory R61, 42_render R205). -/
  periphBase : BitVec 2 → Word
  /-- `RESERVED_MEM_SLOTS`, read by no rule of U1, U2 or U3 (00_scope R7, 92 D10). -/
  reservedMemSlots : Nat
  /-- `TICKS_FN (duration_ms, cal)` (43_tick_quantizer R232). -/
  ticksFn : BitVec 32 → BitVec 32 → BitVec 64
  /-- `STATUS_WINDOW_LSB` (44_state_decoder R260). -/
  statusWindowLsb : Nat
  /-- `STATUS_TABLE`, a partial map from patterns to states (44_state_decoder R261). -/
  statusTable : BitVec 4 → Option DocState

namespace Config

/-- `RESERVED_MEM_SLOTS` less one: the spec gives the bound no value (00_scope R7, 91 N19, 92 D10). Log 10. -/
opaque reservedMemSlotsPred : Nat

/-! Values of U1's outputs that 10_state R31 leaves unspecified when `ok = 0`, and of `selector` and `mode` for a variant
whose rule sets none. A hardware build may drive any value (93 U1-a). Each is a function of `w` (20_memory R69). Log 5. -/

opaque freeVariant : Word → BitVec 5
opaque freeSelector : Word → BitVec 3
opaque freeMode : Word → BitVec 1
opaque freeFields : Word → Decoded
opaque freeSlots : Word → BitVec 1
opaque freePseudo : Word → BitVec 1

/-- `cycle_sel` of an END of kind WAKE (10_state R32, 93 U1-b). Log 6. -/
opaque freeCycleSel : Word → BitVec 4

/-- `win_value` when `shift_in > 32`, as a function of `raw` and `shift_in` (43_tick_quantizer R231, 93 U2-a). Log 7. -/
opaque freeWinValue : BitVec 64 → BitVec 6 → BitVec 16

/-! The inputs the caller presents for its n-th later evaluation: free inputs drawn anew on every call, with no law
relating two draws (10_state R42, 20_memory R66). Log 4. -/

opaque callerWord : Nat → Word
opaque callerProgram : Nat → List Word
opaque callerDurationMs : Nat → BitVec 32
opaque callerCal : Nat → BitVec 32
opaque callerSelRaw : Nat → BitVec 64
opaque callerWinRaw : Nat → BitVec 64
opaque callerShiftIn : Nat → BitVec 6
opaque callerStatus : Nat → Word

end Config

end Sys2Proof
end

