-- ==== Sys2Proof/Machine/Build.lean ====
section
/-! DEFINITION. The parameters of a build: the constraints the spec puts on them (R232, R261), the default build of
00_scope R7, and the alternative instantiations the spec names. -/

namespace Sys2Proof.Machine

/-- The constraints (b) and (c) of 43_tick_quantizer R232 on `TICKS_FN`; (a) and (d) hold by its type. -/
def TicksFnOk (f : BitVec 32 → BitVec 32 → BitVec 64) : Prop :=
  (∀ cal d1 d2, d1 ≤ d2 → f d1 cal ≤ f d2 cal) ∧ ∀ cal, f 0 cal ≤ 1

/-- The window pattern of the snapshot with only bits 13 and 14 set (44_state_decoder R261 (c)). -/
def runningPattern (lsb : Nat) : BitVec 4 := BitVec.ofNat 4 (0x6000 / 2 ^ lsb)

/-- The constraints (b) to (e) of 44_state_decoder R261 on `STATUS_TABLE`; (a), (f) and (g) hold by its type. -/
abbrev StatusTableOk (lsb : Nat) (table : BitVec 4 → Option DocState) : Prop :=
  table 0 = some .idle ∧ table (runningPattern lsb) = some .running ∧ table 0b1111 = none ∧
    (∃ v, table v = some .halted) ∧ (∃ v, table v = some .sleeping) ∧
    (∃ v, table v = some .waking) ∧ ∃ v, table v = some .done

/-- What the spec asks of the parameters of any build (00_scope R7, R232, R260, R261). -/
structure ParamsValid (p : Params) : Prop where
  slots : 1 ≤ p.reservedMemSlots
  ticks : TicksFnOk p.ticksFn
  window : p.statusWindowLsb = 11 ∨ p.statusWindowLsb = 12 ∨ p.statusWindowLsb = 13
  table : StatusTableOk p.statusWindowLsb p.statusTable

/-- The condition of 42_render R210 on `PERIPH_BASE`: the four regions are pairwise disjoint. -/
abbrev RegionsDisjoint (base : BitVec 2 → Word) : Prop :=
  ∀ i j, i ≠ j → (base i).toNat + 1020 < (base j).toNat ∨ (base j).toNat + 1020 < (base i).toNat

/-- The default `PERIPH_BASE` (00_scope R7, 20_memory R65, 92 D11). Log 9. -/
def defaultPeriphBase : BitVec 2 → Word
  | 0 => 0x3FF48000
  | 1 => 0x3FF48400
  | 2 => 0x3FF48800
  | 3 => 0x3FF48C00

/-- The default `TICKS_FN`, `cal` in ticks per second (43_tick_quantizer R232, 92 D16). Log 9. -/
def defaultTicksFn (durationMs cal : BitVec 32) : BitVec 64 :=
  BitVec.ofNat 64 (durationMs.toNat * cal.toNat / 1000)

/-- The ESP-IDF form of `TICKS_FN` (93 G7): `cal` is a clock period with 19 fraction bits. At `cal = 0`, where that form
is undefined, it gives 0 ticks, the value 93 G7 offers. Log 12. -/
def espidfTicksFn (durationMs cal : BitVec 32) : BitVec 64 :=
  BitVec.ofNat 64 (durationMs.toNat * 1000 * 2 ^ 19 / cal.toNat)

/-- The reference `STATUS_TABLE` for `STATUS_WINDOW_LSB = 13` (44_state_decoder R265, 92 D22). Log 9. -/
def referenceStatusTable : BitVec 4 → Option DocState
  | 0b0000 => some .idle
  | 0b0011 => some .running
  | 0b1011 => some .halted
  | 0b1001 => some .sleeping
  | 0b0001 => some .waking
  | 0b0101 => some .waking
  | 0b0111 => some .waking
  | 0b1000 => some .done
  | _ => none

/-- A `STATUS_TABLE` for `STATUS_WINDOW_LSB = 12`, which 44_state_decoder R265 leaves to the model. DESIGN CHOICE, log 11. -/
def statusTable12 : BitVec 4 → Option DocState
  | 0b0000 => some .idle
  | 0b0110 => some .running
  | 0b0111 => some .halted
  | 0b0011 => some .sleeping
  | 0b0010 => some .waking
  | 0b0001 => some .done
  | _ => none

/-- A `STATUS_TABLE` for `STATUS_WINDOW_LSB = 11`, which 44_state_decoder R265 leaves to the model. DESIGN CHOICE, log 11. -/
def statusTable11 : BitVec 4 → Option DocState
  | 0b0000 => some .idle
  | 0b1100 => some .running
  | 0b1101 => some .halted
  | 0b0101 => some .sleeping
  | 0b0100 => some .waking
  | 0b0001 => some .done
  | _ => none

/-- The default build: every parameter of 00_scope R7 at its default, and `RESERVED_MEM_SLOTS`, which has none, at an
unknown value of at least 1. It is the block that `step` runs. Log 9, log 10. -/
def build : Params where
  unusedBitsStrict := true
  periphBase := defaultPeriphBase
  reservedMemSlots := Config.reservedMemSlotsPred + 1
  ticksFn := defaultTicksFn
  statusWindowLsb := 13
  statusTable := referenceStatusTable

end Sys2Proof.Machine
end

