-- ==== Sys2Proof/WellFormed.lean ====
section
/-! DEFINITION. The well-formed instructions: those a canonical word of a row encodes (42_render R211). -/

namespace Sys2Proof

/-- A well-formed instruction. ADC's `mux` is 1 to 15 (30_encoding R103, 42_render R211). The BX target field that the
addressing mode leaves unused is 0 (30_encoding R104, 92 D9): `addr` in register mode, `dreg` in immediate mode.
Every other field takes every value of its width, and no relation between fields is checked (40_decode_core R135). -/
def Instr.wellFormed : Instr → Bool
  | .wrReg .. => true
  | .rdReg .. => true
  | .i2cRw .. => true
  | .delay .. => true
  | .adc _ _ mux => mux != 0
  | .st .. => true
  | .addr .. => true
  | .subr .. => true
  | .andr .. => true
  | .orr .. => true
  | .movr .. => true
  | .lshr .. => true
  | .rshr .. => true
  | .addi .. => true
  | .subi .. => true
  | .andi .. => true
  | .ori .. => true
  | .movi .. => true
  | .lshi .. => true
  | .rshi .. => true
  | .stageInc .. => true
  | .stageDec .. => true
  | .stageRst .. => true
  | .bxr _ slot => slot == 0
  | .bxi dreg _ => dreg == 0
  | .bxzr _ slot => slot == 0
  | .bxzi dreg _ => dreg == 0
  | .bxfr _ slot => slot == 0
  | .bxfi dreg _ => dreg == 0
  | .bl .. => true
  | .bge .. => true
  | .jumpsLt .. => true
  | .jumpsGe .. => true
  | .jumpsLe .. => true
  | .wake => true
  | .sleepCycleSel .. => true
  | .tsens .. => true
  | .halt => true
  | .ld .. => true
  | .label .. => true

end Sys2Proof
end

