-- ==== Sys2Proof/Decode.lean ====
section
/-! DEFINITION. U1's decode function (40_decode_core R120), total on every word, and after it the encoder that writes the
canonical word of an instruction (30_encoding R111, 42_render R211). Every bit position is the layout the spec adopts
(92 D2, D3; log 1). -/

namespace Sys2Proof

/-- `w[hi:lo]`, the unsigned number made of bits `hi` down to `lo` (00_scope R8; `>>` is floor division, R9). -/
def slice (w : Word) (hi lo : Nat) : Nat := w.toNat / 2 ^ lo % 2 ^ (hi - lo + 1)

/-- `w[hi:lo]` as a field of its own width (30_encoding R102: no scaling, no sign extension). -/
def field (w : Word) (hi lo : Nat) : BitVec (hi - lo + 1) := BitVec.ofNat _ (slice w hi lo)

/-! ## Steps 1 to 3 of R120: opcode, sub-opcode, selector -/

/-- The ALU_REG row of a selector `w[24:21]` (30_encoding R83, 41_decode_alu_branch R160). -/
def aluRegRow : Nat → Except Reason Row
  | 0 => .ok .addr
  | 1 => .ok .subr
  | 2 => .ok .andr
  | 3 => .ok .orr
  | 4 => .ok .movr
  | 5 => .ok .lshr
  | 6 => .ok .rshr
  | _ => .error .badSelector

/-- The ALU_IMM row of a selector `w[24:21]` (30_encoding R83, 41_decode_alu_branch R160). -/
def aluImmRow : Nat → Except Reason Row
  | 0 => .ok .addi
  | 1 => .ok .subi
  | 2 => .ok .andi
  | 3 => .ok .ori
  | 4 => .ok .movi
  | 5 => .ok .lshi
  | 6 => .ok .rshi
  | _ => .error .badSelector

/-- The ALU_STAGE row of a selector `w[24:21]` (30_encoding R83, 41_decode_alu_branch R160). -/
def aluStageRow : Nat → Except Reason Row
  | 0 => .ok .stageInc
  | 1 => .ok .stageDec
  | 2 => .ok .stageRst
  | _ => .error .badSelector

/-- The BX row of `type = w[24:22]` and `reg = w[21]` (30_encoding R83, 41_decode_alu_branch R178). -/
def bxRow (type reg : Nat) : Except Reason Row :=
  match type with
  | 0 => .ok (if reg = 1 then .bxr else .bxi)
  | 1 => .ok (if reg = 1 then .bxzr else .bxzi)
  | 2 => .ok (if reg = 1 then .bxfr else .bxfi)
  | _ => .error .badSelector

/-- The B row of `cmp = w[16]`: no failing value (30_encoding R83, 41_decode_alu_branch R178). -/
def bRow (cmp : Nat) : Except Reason Row := .ok (if cmp = 0 then .bl else .bge)

/-- The BS row of `cmp = w[16:15]` (30_encoding R83, 41_decode_alu_branch R178). -/
def bsRow : Nat → Except Reason Row
  | 0 => .ok .jumpsLt
  | 1 => .ok .jumpsGe
  | 2 => .ok .jumpsLe
  | _ => .error .badSelector

/-- Opcode 7: the sub-opcode, then the selector (41_decode_alu_branch R160). -/
def classifyAlu (w : Word) : Except Reason Row :=
  match slice w 27 25 with
  | 0 => aluRegRow (slice w 24 21)
  | 1 => aluImmRow (slice w 24 21)
  | 2 => aluStageRow (slice w 24 21)
  | _ => .error .badSubopcode

/-- Opcode 8: the sub-opcode, then type and reg, or cmp (41_decode_alu_branch R178). -/
def classifyBranch (w : Word) : Except Reason Row :=
  match slice w 27 25 with
  | 0 => bxRow (slice w 24 22) (slice w 21 21)
  | 1 => bRow (slice w 16 16)
  | 2 => bsRow (slice w 16 15)
  | _ => .error .badSubopcode

/-- Opcode 9: the END kinds (30_encoding R82). -/
def classifyEnd (w : Word) : Except Reason Row :=
  match slice w 27 25 with
  | 0 => .ok .wake
  | 1 => .ok .sleepCycleSel
  | _ => .error .badSubopcode

/-- Steps 1 to 3 of 40_decode_core R120: the row a word's opcode, sub-opcode and selector name, or the first of
BAD_OPCODE, BAD_SUBOPCODE, BAD_SELECTOR that applies (30_encoding R81 to R83). -/
def classify (w : Word) : Except Reason Row :=
  match slice w 31 28 with
  | 1 => .ok .wrReg
  | 2 => .ok .rdReg
  | 3 => .ok .i2cRw
  | 4 => .ok .delay
  | 5 => .ok .adc
  | 6 => if slice w 27 25 = 4 then .ok .st else .error .badSubopcode
  | 7 => classifyAlu w
  | 8 => classifyBranch w
  | 9 => classifyEnd w
  | 10 => .ok .tsens
  | 11 => .ok .halt
  | 13 => .ok .ld
  | 15 => if slice w 27 24 = 0 then .ok .label else .error .badSubopcode
  | _ => .error .badOpcode

/-! ## Steps 4 to 6 of R120: value checks, unused bits, fields -/

/-- Step 4 of 40_decode_core R120: ADC with `mux = 0`, END_WAKE with `w[0] = 0` (30_encoding R103, R96). -/
def badValue (row : Row) (w : Word) : Bool :=
  (row == .adc && slice w 5 2 == 0) || (row == .wake && slice w 0 0 == 0)

/-- The unused bits of each format as ranges `(hi, lo)` (30_encoding R84 to R101): the ranges marked unused there, ADC's
`cycles` (92 D7), and the BX target field the mode does not read (92 D9). -/
def unusedRanges : Row → List (Nat × Nat)
  | .wrReg => []
  | .rdReg => [(17, 10)]
  | .i2cRw => [(26, 26)]
  | .delay => [(27, 16)]
  | .adc => [(7, 7), (23, 8), (27, 24)]
  | .st => [(9, 4), (24, 21)]
  | .addr => [(20, 6)]
  | .subr => [(20, 6)]
  | .andr => [(20, 6)]
  | .orr => [(20, 6)]
  | .movr => [(20, 6)]
  | .lshr => [(20, 6)]
  | .rshr => [(20, 6)]
  | .addi => [(20, 20)]
  | .subi => [(20, 20)]
  | .andi => [(20, 20)]
  | .ori => [(20, 20)]
  | .movi => [(20, 20)]
  | .lshi => [(20, 20)]
  | .rshi => [(20, 20)]
  | .stageInc => [(3, 0), (20, 12)]
  | .stageDec => [(3, 0), (20, 12)]
  | .stageRst => [(3, 0), (20, 12)]
  | .bxr => [(12, 2), (20, 13)]
  | .bxi => [(1, 0), (20, 13)]
  | .bxzr => [(12, 2), (20, 13)]
  | .bxzi => [(1, 0), (20, 13)]
  | .bxfr => [(12, 2), (20, 13)]
  | .bxfi => [(1, 0), (20, 13)]
  | .bl => []
  | .bge => []
  | .jumpsLt => [(14, 8)]
  | .jumpsGe => [(14, 8)]
  | .jumpsLe => [(14, 8)]
  | .wake => [(24, 1)]
  | .sleepCycleSel => [(24, 4)]
  | .tsens => [(27, 16)]
  | .halt => [(27, 0)]
  | .ld => [(9, 4), (27, 21)]
  | .label => [(23, 16)]

/-- Whether some unused bit of the row's format is 1 in `w` (30_encoding R104). -/
def hasUnused (row : Row) (w : Word) : Bool :=
  (unusedRanges row).any fun range => slice w range.1 range.2 != 0

/-- Step 6 of 40_decode_core R120: the fields of the row, each at its bits (30_encoding R84 to R101). -/
def operands (row : Row) (w : Word) : Instr :=
  match row with
  | .wrReg => .wrReg (field w 9 8) (field w 7 0) (field w 22 18) (field w 27 23) (field w 17 10)
  | .rdReg => .rdReg (field w 9 8) (field w 7 0) (field w 22 18) (field w 27 23)
  | .i2cRw => .i2cRw (field w 7 0) (field w 15 8) (field w 18 16) (field w 21 19) (field w 25 22) (field w 27 27)
  | .delay => .delay (field w 15 0)
  | .adc => .adc (field w 1 0) (field w 6 6) (field w 5 2)
  | .st => .st (field w 1 0) (field w 3 2) (field w 20 10)
  | .addr => .addr (field w 1 0) (field w 3 2) (field w 5 4)
  | .subr => .subr (field w 1 0) (field w 3 2) (field w 5 4)
  | .andr => .andr (field w 1 0) (field w 3 2) (field w 5 4)
  | .orr => .orr (field w 1 0) (field w 3 2) (field w 5 4)
  | .movr => .movr (field w 1 0) (field w 3 2) (field w 5 4)
  | .lshr => .lshr (field w 1 0) (field w 3 2) (field w 5 4)
  | .rshr => .rshr (field w 1 0) (field w 3 2) (field w 5 4)
  | .addi => .addi (field w 1 0) (field w 3 2) (field w 19 4)
  | .subi => .subi (field w 1 0) (field w 3 2) (field w 19 4)
  | .andi => .andi (field w 1 0) (field w 3 2) (field w 19 4)
  | .ori => .ori (field w 1 0) (field w 3 2) (field w 19 4)
  | .movi => .movi (field w 1 0) (field w 3 2) (field w 19 4)
  | .lshi => .lshi (field w 1 0) (field w 3 2) (field w 19 4)
  | .rshi => .rshi (field w 1 0) (field w 3 2) (field w 19 4)
  | .stageInc => .stageInc (field w 11 4)
  | .stageDec => .stageDec (field w 11 4)
  | .stageRst => .stageRst (field w 11 4)
  | .bxr => .bxr (field w 1 0) (field w 12 2)
  | .bxi => .bxi (field w 1 0) (field w 12 2)
  | .bxzr => .bxzr (field w 1 0) (field w 12 2)
  | .bxzi => .bxzi (field w 1 0) (field w 12 2)
  | .bxfr => .bxfr (field w 1 0) (field w 12 2)
  | .bxfi => .bxfi (field w 1 0) (field w 12 2)
  | .bl => .bl (field w 23 17) (field w 24 24) (field w 15 0)
  | .bge => .bge (field w 23 17) (field w 24 24) (field w 15 0)
  | .jumpsLt => .jumpsLt (field w 23 17) (field w 24 24) (field w 7 0)
  | .jumpsGe => .jumpsGe (field w 23 17) (field w 24 24) (field w 7 0)
  | .jumpsLe => .jumpsLe (field w 23 17) (field w 24 24) (field w 7 0)
  | .wake => .wake
  | .sleepCycleSel => .sleepCycleSel (field w 3 0)
  | .tsens => .tsens (field w 1 0) (field w 15 2)
  | .halt => .halt
  | .ld => .ld (field w 1 0) (field w 3 2) (field w 20 10)
  | .label => .label (field w 15 0)

/-- U1's decode function (40_decode_core R120): the instruction a word encodes, or the first failure reason that applies
(60_exceptions R282). `strict` is `UNUSED_BITS_STRICT`. -/
def decode (strict : Bool) (w : Word) : Except Reason Instr :=
  match classify w with
  | .error r => .error r
  | .ok row =>
    if badValue row w then .error .badValue
    else if strict && hasUnused row w then .error .nonzeroUnused
    else .ok (operands row w)

/-! ## The opcode table (30_encoding R111) -/

/-- The `match` word of a row (30_encoding R111). -/
def matchWord : Row → Word
  | .wrReg => 0x10000000
  | .rdReg => 0x20000000
  | .i2cRw => 0x30000000
  | .delay => 0x40000000
  | .adc => 0x50000000
  | .st => 0x68000000
  | .addr => 0x70000000
  | .subr => 0x70200000
  | .andr => 0x70400000
  | .orr => 0x70600000
  | .movr => 0x70800000
  | .lshr => 0x70A00000
  | .rshr => 0x70C00000
  | .addi => 0x72000000
  | .subi => 0x72200000
  | .andi => 0x72400000
  | .ori => 0x72600000
  | .movi => 0x72800000
  | .lshi => 0x72A00000
  | .rshi => 0x72C00000
  | .stageInc => 0x74000000
  | .stageDec => 0x74200000
  | .stageRst => 0x74400000
  | .bxr => 0x80200000
  | .bxi => 0x80000000
  | .bxzr => 0x80600000
  | .bxzi => 0x80400000
  | .bxfr => 0x80A00000
  | .bxfi => 0x80800000
  | .bl => 0x82000000
  | .bge => 0x82010000
  | .jumpsLt => 0x84000000
  | .jumpsGe => 0x84008000
  | .jumpsLe => 0x84010000
  | .wake => 0x90000001
  | .sleepCycleSel => 0x92000000
  | .tsens => 0xA0000000
  | .halt => 0xB0000000
  | .ld => 0xD0000000
  | .label => 0xF0000000

/-- The mask of a row under `UNUSED_BITS_STRICT = true` (30_encoding R111). -/
def strictMask : Row → Word
  | .wrReg => 0xF0000000
  | .rdReg => 0xF003FC00
  | .i2cRw => 0xF4000000
  | .delay => 0xFFFF0000
  | .adc => 0xFFFFFF80
  | .st => 0xFFE003F0
  | .addr => 0xFFFFFFC0
  | .subr => 0xFFFFFFC0
  | .andr => 0xFFFFFFC0
  | .orr => 0xFFFFFFC0
  | .movr => 0xFFFFFFC0
  | .lshr => 0xFFFFFFC0
  | .rshr => 0xFFFFFFC0
  | .addi => 0xFFF00000
  | .subi => 0xFFF00000
  | .andi => 0xFFF00000
  | .ori => 0xFFF00000
  | .movi => 0xFFF00000
  | .lshi => 0xFFF00000
  | .rshi => 0xFFF00000
  | .stageInc => 0xFFFFF00F
  | .stageDec => 0xFFFFF00F
  | .stageRst => 0xFFFFF00F
  | .bxr => 0xFFFFFFFC
  | .bxi => 0xFFFFE003
  | .bxzr => 0xFFFFFFFC
  | .bxzi => 0xFFFFE003
  | .bxfr => 0xFFFFFFFC
  | .bxfi => 0xFFFFE003
  | .bl => 0xFE010000
  | .bge => 0xFE010000
  | .jumpsLt => 0xFE01FF00
  | .jumpsGe => 0xFE01FF00
  | .jumpsLe => 0xFE01FF00
  | .wake => 0xFFFFFFFF
  | .sleepCycleSel => 0xFFFFFFF0
  | .tsens => 0xFFFF0000
  | .halt => 0xFFFFFFFF
  | .ld => 0xFFE003F0
  | .label => 0xFFFF0000

/-- The mask of a row under `UNUSED_BITS_STRICT = false` (30_encoding R111). -/
def lenientMask : Row → Word
  | .wrReg => 0xF0000000
  | .rdReg => 0xF0000000
  | .i2cRw => 0xF0000000
  | .delay => 0xF0000000
  | .adc => 0xF0000000
  | .st => 0xFE000000
  | .addr => 0xFFE00000
  | .subr => 0xFFE00000
  | .andr => 0xFFE00000
  | .orr => 0xFFE00000
  | .movr => 0xFFE00000
  | .lshr => 0xFFE00000
  | .rshr => 0xFFE00000
  | .addi => 0xFFE00000
  | .subi => 0xFFE00000
  | .andi => 0xFFE00000
  | .ori => 0xFFE00000
  | .movi => 0xFFE00000
  | .lshi => 0xFFE00000
  | .rshi => 0xFFE00000
  | .stageInc => 0xFFE00000
  | .stageDec => 0xFFE00000
  | .stageRst => 0xFFE00000
  | .bxr => 0xFFE00000
  | .bxi => 0xFFE00000
  | .bxzr => 0xFFE00000
  | .bxzi => 0xFFE00000
  | .bxfr => 0xFFE00000
  | .bxfi => 0xFFE00000
  | .bl => 0xFE010000
  | .bge => 0xFE010000
  | .jumpsLt => 0xFE018000
  | .jumpsGe => 0xFE018000
  | .jumpsLe => 0xFE018000
  | .wake => 0xFE000001
  | .sleepCycleSel => 0xFE000000
  | .tsens => 0xF0000000
  | .halt => 0xF0000000
  | .ld => 0xF0000000
  | .label => 0xFF000000

/-- Whether a row of the opcode table accepts a word: `w & mask = match`, and `w[5:2] ≠ 0` on I_ADC
(30_encoding R110, R111). -/
def rowAccepts (strict : Bool) (row : Row) (w : Word) : Bool :=
  w &&& (if strict then strictMask row else lenientMask row) == matchWord row &&
    !(row == .adc && slice w 5 2 == 0)

/-! ## The encoder -/

/-- A field placed with its least significant bit at bit `lo`. -/
def place {n : Nat} (v : BitVec n) (lo : Nat) : Nat := v.toNat * 2 ^ lo

/-- The fields of an instruction at the bits of its format (30_encoding R84 to R101). -/
def placedFields : Instr → Nat
  | .wrReg periph addr low high data =>
    place periph 8 + place addr 0 + place low 18 + place high 23 + place data 10
  | .rdReg periph addr low high => place periph 8 + place addr 0 + place low 18 + place high 23
  | .i2cRw subaddr data low high sel rw =>
    place subaddr 0 + place data 8 + place low 16 + place high 19 + place sel 22 + place rw 27
  | .delay cycles => place cycles 0
  | .adc dreg sarSel mux => place dreg 0 + place sarSel 6 + place mux 2
  | .st dreg sreg offset => place dreg 0 + place sreg 2 + place offset 10
  | .addr dreg sreg treg => place dreg 0 + place sreg 2 + place treg 4
  | .subr dreg sreg treg => place dreg 0 + place sreg 2 + place treg 4
  | .andr dreg sreg treg => place dreg 0 + place sreg 2 + place treg 4
  | .orr dreg sreg treg => place dreg 0 + place sreg 2 + place treg 4
  | .movr dreg sreg treg => place dreg 0 + place sreg 2 + place treg 4
  | .lshr dreg sreg treg => place dreg 0 + place sreg 2 + place treg 4
  | .rshr dreg sreg treg => place dreg 0 + place sreg 2 + place treg 4
  | .addi dreg sreg imm => place dreg 0 + place sreg 2 + place imm 4
  | .subi dreg sreg imm => place dreg 0 + place sreg 2 + place imm 4
  | .andi dreg sreg imm => place dreg 0 + place sreg 2 + place imm 4
  | .ori dreg sreg imm => place dreg 0 + place sreg 2 + place imm 4
  | .movi dreg sreg imm => place dreg 0 + place sreg 2 + place imm 4
  | .lshi dreg sreg imm => place dreg 0 + place sreg 2 + place imm 4
  | .rshi dreg sreg imm => place dreg 0 + place sreg 2 + place imm 4
  | .stageInc imm => place imm 4
  | .stageDec imm => place imm 4
  | .stageRst imm => place imm 4
  | .bxr dreg addr => place dreg 0 + place addr 2
  | .bxi dreg addr => place dreg 0 + place addr 2
  | .bxzr dreg addr => place dreg 0 + place addr 2
  | .bxzi dreg addr => place dreg 0 + place addr 2
  | .bxfr dreg addr => place dreg 0 + place addr 2
  | .bxfi dreg addr => place dreg 0 + place addr 2
  | .bl mag sign imm => place mag 17 + place sign 24 + place imm 0
  | .bge mag sign imm => place mag 17 + place sign 24 + place imm 0
  | .jumpsLt mag sign imm => place mag 17 + place sign 24 + place imm 0
  | .jumpsGe mag sign imm => place mag 17 + place sign 24 + place imm 0
  | .jumpsLe mag sign imm => place mag 17 + place sign 24 + place imm 0
  | .wake => 0
  | .sleepCycleSel cycleSel => place cycleSel 0
  | .tsens dreg waitDelay => place dreg 0 + place waitDelay 2
  | .halt => 0
  | .ld dreg sreg offset => place dreg 0 + place sreg 2 + place offset 10
  | .label id => place id 0

/-- The canonical word of a well-formed instruction: the row's `match` with each field placed at its bits and every unused
bit 0 (42_render R211, 30_encoding R104). -/
def encode (i : Instr) : Word := BitVec.ofNat 32 ((matchWord i.row).toNat + placedFields i)

/-! ## Byte images (20_memory R62): what the caller does before U1 sees a word -/

/-- A word from 4 consecutive bytes, least significant byte first (20_memory R62, 92 D25). -/
def wordOfBytes (b0 b1 b2 b3 : Byte) : Word := b3 ++ b2 ++ b1 ++ b0

/-- The 4 bytes of a word as a program image holds them, lowest address first (20_memory R62, 92 D25). -/
def bytesOfWord (w : Word) : List Byte := [field w 7 0, field w 15 8, field w 23 16, field w 31 24]

/-- The words of a program image. An image whose length is not a multiple of 4 bytes gives none: it is the caller's
defect, and the block never sees it (20_memory R63). -/
def wordsOfImage : List Byte → Option (List Word)
  | [] => some []
  | b0 :: b1 :: b2 :: b3 :: rest => (wordsOfImage rest).map (wordOfBytes b0 b1 b2 b3 :: ·)
  | _ => none

/-- Why no instruction is read from the front of a byte list. -/
inductive ImageError
  /-- Fewer than 4 bytes are left: the caller has no word to give U1 (20_memory R63). -/
  | shortImage
  /-- U1 fails on the word, for this reason (40_decode_core R120). -/
  | failed (reason : Reason)
deriving DecidableEq, Repr

/-- Decodes the word at the front of a byte list and leaves the other bytes. -/
def decodeBytes (strict : Bool) : List Byte → Except ImageError (Instr × List Byte)
  | b0 :: b1 :: b2 :: b3 :: rest =>
    match decode strict (wordOfBytes b0 b1 b2 b3) with
    | .ok i => .ok (i, rest)
    | .error r => .error (.failed r)
  | _ => .error .shortImage

/-- The instruction the default build's decoder reads from a word given as a number of `nbits` bits. -/
def decodeTableWord (nbits w : Nat) : Option Instr :=
  match decodeBytes Machine.build.unusedBitsStrict (bytesOfWord (BitVec.ofNat 32 (w % 2 ^ nbits))) with
  | .ok (i, _) => some i
  | .error _ => none

end Sys2Proof
end

