-- ==== Sys2Proof/Machine/Record.lean ====
section
/-! DEFINITION. The codes of the decoded record (10_state R32, 60_exceptions R281): tags, selectors, addressing mode, reason
codes, the record of an instruction, and the register roles its fields name (10_state R37). -/

namespace Sys2Proof.Machine

/-- U1's reason codes on the `reason` output (60_exceptions R281); 0 is NONE, 6 and 7 are never driven. -/
def reasonCode : Reason → BitVec 3
  | .badOpcode => 1
  | .badSubopcode => 2
  | .badSelector => 3
  | .badValue => 4
  | .nonzeroUnused => 5

/-- ALU_REG and ALU_IMM ops (10_state R32). -/
def aluOpCode : AluOp → BitVec 3
  | .add => 0
  | .sub => 1
  | .and => 2
  | .or => 3
  | .mov => 4
  | .lsh => 5
  | .rsh => 6

/-- ALU_STAGE ops (10_state R32). -/
def stageOpCode : StageOp → BitVec 3
  | .inc => 0
  | .dec => 1
  | .rst => 2

/-- BX conditions (10_state R32). -/
def bxCondCode : BxCond → BitVec 3
  | .direct => 0
  | .zero => 1
  | .ovf => 2

/-- BX addressing on `mode` (10_state R31). -/
def bxModeCode : BxMode → BitVec 1
  | .imm => 0
  | .reg => 1

/-- B comparisons (10_state R32). -/
def bCmpCode : BCmp → BitVec 3
  | .l => 0
  | .ge => 1

/-- BS comparisons (10_state R32). -/
def bsCmpCode : BsCmp → BitVec 3
  | .lt => 0
  | .ge => 1
  | .le => 2

/-- END kinds (10_state R32). -/
def endKindCode : EndKind → BitVec 3
  | .wake => 0
  | .sleep => 1

/-- The tag of a variant on the `variant` output (10_state R32). -/
def variantTag : Decoded → BitVec 5
  | .wrReg .. => 0
  | .rdReg .. => 1
  | .i2cRw .. => 2
  | .delay .. => 3
  | .adc .. => 4
  | .st .. => 5
  | .aluReg .. => 6
  | .aluImm .. => 7
  | .aluStage .. => 8
  | .bx .. => 9
  | .b .. => 10
  | .bs .. => 11
  | .endProgram .. => 12
  | .tsens .. => 13
  | .halt => 14
  | .ld .. => 15
  | .label .. => 16

/-- The selector of a variant that has one (10_state R32); `none` for the others, whose `selector` output no rule sets. -/
def selectorOf : Decoded → Option (BitVec 3)
  | .wrReg .. => none
  | .rdReg .. => none
  | .i2cRw .. => none
  | .delay .. => none
  | .adc .. => none
  | .st .. => none
  | .aluReg op .. => some (aluOpCode op)
  | .aluImm op .. => some (aluOpCode op)
  | .aluStage op _ => some (stageOpCode op)
  | .bx cond .. => some (bxCondCode cond)
  | .b cmp .. => some (bCmpCode cmp)
  | .bs cmp .. => some (bsCmpCode cmp)
  | .endProgram kind _ => some (endKindCode kind)
  | .tsens .. => none
  | .halt => none
  | .ld .. => none
  | .label .. => none

/-- The addressing of BX (10_state R31, R32); `none` for the other variants, whose `mode` output no rule sets. -/
def modeOf : Decoded → Option (BitVec 1)
  | .wrReg .. => none
  | .rdReg .. => none
  | .i2cRw .. => none
  | .delay .. => none
  | .adc .. => none
  | .st .. => none
  | .aluReg .. => none
  | .aluImm .. => none
  | .aluStage .. => none
  | .bx _ mode .. => some (bxModeCode mode)
  | .b .. => none
  | .bs .. => none
  | .endProgram .. => none
  | .tsens .. => none
  | .halt => none
  | .ld .. => none
  | .label .. => none

/-- The decoded record of an instruction (10_state R32, 40_decode_core R122 to R133, 41_decode_alu_branch R161 to R189).
`w` is the word it was decoded from: the record's `cycle_sel` of an END of kind WAKE is a free value of it (93 U1-b). -/
def record (w : Word) : Instr → Decoded
  | .wrReg periph addr low high data => .wrReg periph addr low high data
  | .rdReg periph addr low high => .rdReg periph addr low high
  | .i2cRw subaddr data low high sel rw => .i2cRw subaddr data low high sel rw
  | .delay cycles => .delay cycles
  | .adc dreg sarSel mux => .adc dreg sarSel mux
  | .st dreg sreg offset => .st dreg sreg offset
  | .addr dreg sreg treg => .aluReg .add dreg sreg treg
  | .subr dreg sreg treg => .aluReg .sub dreg sreg treg
  | .andr dreg sreg treg => .aluReg .and dreg sreg treg
  | .orr dreg sreg treg => .aluReg .or dreg sreg treg
  | .movr dreg sreg treg => .aluReg .mov dreg sreg treg
  | .lshr dreg sreg treg => .aluReg .lsh dreg sreg treg
  | .rshr dreg sreg treg => .aluReg .rsh dreg sreg treg
  | .addi dreg sreg imm => .aluImm .add dreg sreg imm
  | .subi dreg sreg imm => .aluImm .sub dreg sreg imm
  | .andi dreg sreg imm => .aluImm .and dreg sreg imm
  | .ori dreg sreg imm => .aluImm .or dreg sreg imm
  | .movi dreg sreg imm => .aluImm .mov dreg sreg imm
  | .lshi dreg sreg imm => .aluImm .lsh dreg sreg imm
  | .rshi dreg sreg imm => .aluImm .rsh dreg sreg imm
  | .stageInc imm => .aluStage .inc imm
  | .stageDec imm => .aluStage .dec imm
  | .stageRst imm => .aluStage .rst imm
  | .bxr dreg addr => .bx .direct .reg dreg addr
  | .bxi dreg addr => .bx .direct .imm dreg addr
  | .bxzr dreg addr => .bx .zero .reg dreg addr
  | .bxzi dreg addr => .bx .zero .imm dreg addr
  | .bxfr dreg addr => .bx .ovf .reg dreg addr
  | .bxfi dreg addr => .bx .ovf .imm dreg addr
  | .bl mag sign imm => .b .l mag sign imm
  | .bge mag sign imm => .b .ge mag sign imm
  | .jumpsLt mag sign imm => .bs .lt mag sign imm
  | .jumpsGe mag sign imm => .bs .ge mag sign imm
  | .jumpsLe mag sign imm => .bs .le mag sign imm
  | .wake => .endProgram .wake (Config.freeCycleSel w)
  | .sleepCycleSel cycleSel => .endProgram .sleep cycleSel
  | .tsens dreg waitDelay => .tsens dreg waitDelay
  | .halt => .halt
  | .ld dreg sreg offset => .ld dreg sreg offset
  | .label id => .label id

/-- What a record's register index stands for on the LPC (10_state R32, R37): a destination, a source, a second operand, the
data ST stores, the base register of ST or LD (20_memory R61 (c)), or the register that holds a branch target. -/
inductive RegRole
  | dest | source | operand | storeData | base | target
deriving DecidableEq, Repr

/-- The registers a record names, each with its role (10_state R37; 20_memory R61 (c) and 30_encoding R89 for ST and LD,
whose base is `sreg`, log 19). U1 reports indices; it reads and writes no register (R36). -/
def regRoles : Decoded → List (RegRole × BitVec 2)
  | .wrReg .. => []
  | .rdReg .. => []
  | .i2cRw .. => []
  | .delay .. => []
  | .adc dreg _ _ => [(.dest, dreg)]
  | .st dreg sreg _ => [(.storeData, dreg), (.base, sreg)]
  | .aluReg _ dreg sreg treg => [(.dest, dreg), (.source, sreg), (.operand, treg)]
  | .aluImm _ dreg sreg _ => [(.dest, dreg), (.source, sreg)]
  | .aluStage .. => []
  | .bx _ .reg dreg _ => [(.target, dreg)]
  | .bx _ .imm _ _ => []
  | .b .. => []
  | .bs .. => []
  | .endProgram .. => []
  | .tsens dreg _ => [(.dest, dreg)]
  | .halt => []
  | .ld dreg sreg _ => [(.dest, dreg), (.base, sreg)]
  | .label .. => []

end Sys2Proof.Machine
end

