-- ==== Sys2Proof/Machine/Operands.lean ====
section
/-! DEFINITION. The operand forms: the numbers fields stand for (30_encoding R102, R103, 42_render R205) and the text forms
of the arguments of a rendering (42_render R201 to R206). -/

namespace Sys2Proof.Machine

/-! ## Values -/

/-- The signed value of a branch offset, in PC slots: `sign ? −mag : mag` (30_encoding R102, 41_decode_alu_branch R178). -/
def offsetValue (sign : BitVec 1) (mag : BitVec 7) : Int :=
  if sign = 1 then -(mag.toNat : Int) else mag.toNat

/-- The ADC channel `mux − 1` (30_encoding R103). -/
def adcChannel (mux : BitVec 4) : Nat := mux.toNat - 1

/-- The peripheral register address `PERIPH_BASE[periph] + 4 × addr`, an exact natural sum (42_render R205). -/
def periphAddress (base : BitVec 2 → Word) (periph : BitVec 2) (addr : BitVec 8) : Nat :=
  (base periph).toNat + 4 * addr.toNat

/-! ## Number forms (42_render R202) -/

/-- Digits of `n` in a base, most significant first, with `fuel` digits at most. -/
def numeralFuel (base : Nat) : Nat → Nat → Text
  | 0, _ => []
  | fuel + 1, n =>
    if n < base then [Nat.digitChar n] else numeralFuel base fuel (n / base) ++ [Nat.digitChar (n % base)]

/-- The digits of `n`: no leading zeros, one `0` for zero, lowercase letters above 9. -/
def numeral (base n : Nat) : Text := numeralFuel base (n + 1) n

/-- `dec(v)`: decimal, no sign (42_render R202). -/
def dec (n : Nat) : Text := numeral 10 n

/-- `hex(v)`: `0x` and lowercase hexadecimal digits (42_render R202). -/
def hex (n : Nat) : Text := "0x".toList ++ numeral 16 n

/-- `hex8(w)`: exactly 8 lowercase hexadecimal digits, zero-padded (42_render R208). -/
def hex8 (w : Word) : Text :=
  [28, 24, 20, 16, 12, 8, 4, 0].map fun lo => Nat.digitChar (w.toNat / 2 ^ lo % 16)

/-- `reg(i)`: `R` and the decimal index (42_render R202, R203). -/
def reg (i : BitVec 2) : Text := 'R' :: dec i.toNat

/-- `off(sign, mag)`: a leading `-` when the sign bit is set, so `-0` for a set sign and a zero magnitude
(42_render R204). -/
def off (sign : BitVec 1) (mag : BitVec 7) : Text := if sign = 1 then '-' :: dec mag.toNat else dec mag.toNat

/-! ## The shape of a rendering (42_render R201) -/

/-- Arguments separated by one comma and one space. -/
def joinArgs : List Text → Text
  | [] => []
  | [a] => a
  | a :: rest => a ++ ", ".toList ++ joinArgs rest

/-- `MNEMONIC(arg1, arg2, …)` (42_render R201). -/
def call (mnemonic : String) (args : List Text) : Text := mnemonic.toList ++ '(' :: joinArgs args ++ [')']

/-- The symbolic comparison names of BS (42_render R206, 90 C6). -/
def bsCmpName : BsCmp → Text
  | .lt => "JUMPS_LT".toList
  | .ge => "JUMPS_GE".toList
  | .le => "JUMPS_LE".toList

end Sys2Proof.Machine
end

