-- ==== Sys2Proof/Machine/Render.lean ====
section
/-! DEFINITION. U1's text output: the templates (42_render R207), RENDER (R200), the fallback (R208) and LISTING (R209). -/

namespace Sys2Proof.Machine

/-! ## Templates by shape (42_render R207) -/

def wrRegText (base : BitVec 2 → Word) (periph : BitVec 2) (addr : BitVec 8) (low high : BitVec 5) (data : BitVec 8) : Text :=
  call "I_WR_REG" [hex (periphAddress base periph addr), dec low.toNat, dec high.toNat, dec data.toNat]

def rdRegText (base : BitVec 2 → Word) (periph : BitVec 2) (addr : BitVec 8) (low high : BitVec 5) : Text :=
  call "I_RD_REG" [hex (periphAddress base periph addr), dec low.toNat, dec high.toNat]

def i2cRwText (subaddr data : BitVec 8) (low high : BitVec 3) (sel : BitVec 4) (rw : BitVec 1) : Text :=
  call "I_I2C_RW"
    [hex subaddr.toNat, dec data.toNat, dec low.toNat, dec high.toNat, dec sel.toNat, dec rw.toNat]

def delayText (cycles : BitVec 16) : Text := call "I_DELAY" [dec cycles.toNat]

def adcText (dreg : BitVec 2) (sarSel : BitVec 1) (mux : BitVec 4) : Text :=
  call "I_ADC" [reg dreg, dec sarSel.toNat, dec (adcChannel mux)]

/-- The form of I_ST and I_LD. -/
def memText (mnemonic : String) (dreg sreg : BitVec 2) (offset : BitVec 11) : Text :=
  call mnemonic [reg dreg, reg sreg, dec offset.toNat]

/-- The form of the ALU_REG rows. -/
def aluRegText (mnemonic : String) (dreg sreg treg : BitVec 2) : Text :=
  call mnemonic [reg dreg, reg sreg, reg treg]

/-- The form of the ALU_IMM rows. -/
def aluImmText (mnemonic : String) (dreg sreg : BitVec 2) (imm : BitVec 16) : Text :=
  call mnemonic [reg dreg, reg sreg, dec imm.toNat]

/-- The form of the ALU_STAGE rows. -/
def aluStageText (mnemonic : String) (imm : BitVec 8) : Text := call mnemonic [dec imm.toNat]

/-- The form of the BX rows in register mode. -/
def bxRegText (mnemonic : String) (dreg : BitVec 2) : Text := call mnemonic [reg dreg]

/-- The form of the BX rows in immediate mode. -/
def bxImmText (mnemonic : String) (addr : BitVec 11) : Text := call mnemonic [hex addr.toNat]

/-- The form of the B rows. -/
def bText (mnemonic : String) (mag : BitVec 7) (sign : BitVec 1) (imm : BitVec 16) : Text :=
  call mnemonic [off sign mag, dec imm.toNat]

/-- The form of the BS rows: the comparison is the third argument of `I_JUMPS` (42_render R206). -/
def bsText (cmp : BsCmp) (mag : BitVec 7) (sign : BitVec 1) (imm : BitVec 8) : Text :=
  call "I_JUMPS" [off sign mag, dec imm.toNat, bsCmpName cmp]

def wakeText : Text := call "I_WAKE" []

def sleepText (cycleSel : BitVec 4) : Text := call "I_SLEEP_CYCLE_SEL" [dec cycleSel.toNat]

def tsensText (dreg : BitVec 2) (waitDelay : BitVec 14) : Text := call "I_TSENS" [reg dreg, dec waitDelay.toNat]

def haltText : Text := call "I_HALT" []

def labelText (id : BitVec 16) : Text := call "M_LABEL" [dec id.toNat]

/-- The template of an instruction's row applied to its fields (42_render R207). -/
def template (base : BitVec 2 → Word) : Instr → Text
  | .wrReg periph addr low high data => wrRegText base periph addr low high data
  | .rdReg periph addr low high => rdRegText base periph addr low high
  | .i2cRw subaddr data low high sel rw => i2cRwText subaddr data low high sel rw
  | .delay cycles => delayText cycles
  | .adc dreg sarSel mux => adcText dreg sarSel mux
  | .st dreg sreg offset => memText "I_ST" dreg sreg offset
  | .addr dreg sreg treg => aluRegText "I_ADDR" dreg sreg treg
  | .subr dreg sreg treg => aluRegText "I_SUBR" dreg sreg treg
  | .andr dreg sreg treg => aluRegText "I_ANDR" dreg sreg treg
  | .orr dreg sreg treg => aluRegText "I_ORR" dreg sreg treg
  | .movr dreg sreg treg => aluRegText "I_MOVR" dreg sreg treg
  | .lshr dreg sreg treg => aluRegText "I_LSHR" dreg sreg treg
  | .rshr dreg sreg treg => aluRegText "I_RSHR" dreg sreg treg
  | .addi dreg sreg imm => aluImmText "I_ADDI" dreg sreg imm
  | .subi dreg sreg imm => aluImmText "I_SUBI" dreg sreg imm
  | .andi dreg sreg imm => aluImmText "I_ANDI" dreg sreg imm
  | .ori dreg sreg imm => aluImmText "I_ORI" dreg sreg imm
  | .movi dreg sreg imm => aluImmText "I_MOVI" dreg sreg imm
  | .lshi dreg sreg imm => aluImmText "I_LSHI" dreg sreg imm
  | .rshi dreg sreg imm => aluImmText "I_RSHI" dreg sreg imm
  | .stageInc imm => aluStageText "I_STAGE_INC" imm
  | .stageDec imm => aluStageText "I_STAGE_DEC" imm
  | .stageRst imm => aluStageText "I_STAGE_RST" imm
  | .bxr dreg _ => bxRegText "I_BXR" dreg
  | .bxi _ addr => bxImmText "I_BXI" addr
  | .bxzr dreg _ => bxRegText "I_BXZR" dreg
  | .bxzi _ addr => bxImmText "I_BXZI" addr
  | .bxfr dreg _ => bxRegText "I_BXFR" dreg
  | .bxfi _ addr => bxImmText "I_BXFI" addr
  | .bl mag sign imm => bText "I_BL" mag sign imm
  | .bge mag sign imm => bText "I_BGE" mag sign imm
  | .jumpsLt mag sign imm => bsText .lt mag sign imm
  | .jumpsGe mag sign imm => bsText .ge mag sign imm
  | .jumpsLe mag sign imm => bsText .le mag sign imm
  | .wake => wakeText
  | .sleepCycleSel cycleSel => sleepText cycleSel
  | .tsens dreg waitDelay => tsensText dreg waitDelay
  | .halt => haltText
  | .ld dreg sreg offset => memText "I_LD" dreg sreg offset
  | .label id => labelText id

/-! ## RENDER and LISTING -/

/-- The raw-hex fallback of a failing word, a C initializer (42_render R208); characters 123 and 125 are the braces. -/
def fallback (w : Word) : Text :=
  Char.ofNat 123 :: " .instruction = 0x".toList ++ hex8 w ++ [' ', Char.ofNat 125]

/-- RENDER (42_render R200). -/
def render (p : Params) (w : Word) : Text :=
  match decode p.unusedBitsStrict w with
  | .error _ => fallback w
  | .ok i => template p.periphBase i

/-- LISTING: each word's rendering followed by a comma and a line feed, in order (42_render R209). -/
def listing (p : Params) : List Word → Text
  | [] => []
  | w :: ws => render p w ++ ",\n".toList ++ listing p ws

end Sys2Proof.Machine
end

