-- ==== Sys2Proof/Machine/Signals.lean ====
section
/-! DEFINITION. The signals of the block's three units, each at the width 10_state R31, R33 and R34 give it. -/

namespace Sys2Proof.Machine

/-- The inputs of one evaluation of the block (10_state R31, R33, R34; 42_render R209 for `program`). -/
structure Inputs where
  /-- U1's instruction word `w` (R31). -/
  w : Word
  /-- The finite sequence of words LISTING renders (42_render R209). -/
  program : List Word
  /-- QUANTIZE's `duration_ms` (R33). -/
  durationMs : BitVec 32
  /-- QUANTIZE's `cal` (R33). -/
  cal : BitVec 32
  /-- SELECT_SHIFT's `raw` (R33). -/
  selRaw : BitVec 64
  /-- WINDOW's `raw` (R33). -/
  winRaw : BitVec 64
  /-- WINDOW's `shift_in` (R33). -/
  shiftIn : BitVec 6
  /-- U3's `status` snapshot (R34, R41). -/
  status : Word
deriving DecidableEq, Repr

/-- U1's outputs (10_state R31) and the rendering of its word (42_render R200). While `ok = 0`, only `ok`, `reason` and
`text` are specified; the other outputs hold free values and are read through the port reads of Machine/Ops.lean. -/
structure U1Out where
  ok : BitVec 1
  reason : BitVec 3
  variant : BitVec 5
  selector : BitVec 3
  mode : BitVec 1
  /-- The operand fields of the matched variant, as the record of R32. -/
  fields : Decoded
  slots : BitVec 1
  pseudo : BitVec 1
  /-- `RENDER(w)`, the fallback of a failing word included (42_render R200). -/
  text : Text
deriving DecidableEq, Repr

/-- QUANTIZE's outputs (10_state R33). -/
structure QuantizeOut where
  rawTicks : BitVec 64
  shift : BitVec 6
  value : BitVec 16
  over48 : BitVec 1
deriving DecidableEq, Repr

/-- WINDOW's outputs (10_state R33); `winValue` holds a free value while `winOk = 0` (43_tick_quantizer R231). -/
structure WindowOut where
  winValue : BitVec 16
  winOk : BitVec 1
deriving DecidableEq, Repr

/-- U3's outputs (10_state R34). -/
structure U3Out where
  state : BitVec 3
  diagValid : BitVec 1
  diagPattern : Word
deriving DecidableEq, Repr

/-- The outputs of one evaluation of the block. -/
structure Outputs where
  u1 : U1Out
  /-- `LISTING(program)` (42_render R209). -/
  listing : Text
  quantize : QuantizeOut
  /-- SELECT_SHIFT's `shift` (10_state R33). -/
  select : BitVec 6
  window : WindowOut
  u3 : U3Out
deriving DecidableEq, Repr

end Sys2Proof.Machine
end

