-- ==== Sys2Proof/Machine/Flags.lean ====
section
/-! DEFINITION. The one-bit outputs the units compute. The block has no flags or condition codes (10_state R39): these are
output signals, and no instruction reads or keeps one. -/

namespace Sys2Proof.Machine

/-- `pseudo`: 1 for LABEL, 0 for every other variant (40_decode_core R121). -/
def pseudoOf : Decoded → BitVec 1
  | .label _ => 1
  | _ => 0

/-- `slots`: 0 for LABEL, 1 for every other variant (40_decode_core R121). -/
def slotsOf : Decoded → BitVec 1
  | .label _ => 0
  | _ => 1

/-- `over48 = (raw >= 2^48)` (43_tick_quantizer R234). -/
def over48Of (raw : BitVec 64) : BitVec 1 := BitVec.ofBool (2 ^ 48 ≤ raw.toNat)

/-- `win_ok`: 1 for a shift in the source's range 0 to 32 (43_tick_quantizer R231). -/
def winOkOf (shiftIn : BitVec 6) : BitVec 1 := BitVec.ofBool (shiftIn.toNat ≤ 32)

end Sys2Proof.Machine
end

