-- ==== Sys2Proof/Machine/StateDecoder.lean ====
section
/-! DEFINITION. U3, the coprocessor power-state decoder (44_state_decoder). -/

namespace Sys2Proof.Machine

/-- The state encoding on `state` (10_state R35); 7 is never driven. -/
def stateCode : PowerState → BitVec 3
  | .documented .idle => 0
  | .documented .running => 1
  | .documented .halted => 2
  | .documented .sleeping => 3
  | .documented .waking => 4
  | .documented .done => 5
  | .unknown => 6

/-- The pattern `v = status[L+3 : L]` (44_state_decoder R260). -/
def statusPattern (lsb : Nat) (status : Word) : BitVec 4 := BitVec.ofNat 4 (slice status (lsb + 3) lsb)

/-- `MASK = 0xF << L` (44_state_decoder R260). -/
def statusMask (lsb : Nat) : Word := 0xF#32 <<< lsb

/-- The state a snapshot is classified as (44_state_decoder R262). -/
def powerState (p : Params) (status : Word) : PowerState :=
  match p.statusTable (statusPattern p.statusWindowLsb status) with
  | some d => .documented d
  | none => .unknown

/-- DECODE_STATE (44_state_decoder R262). -/
def decodeState (p : Params) (status : Word) : U3Out :=
  match p.statusTable (statusPattern p.statusWindowLsb status) with
  | some d => { state := stateCode (.documented d), diagValid := 0, diagPattern := 0 }
  | none => { state := stateCode .unknown, diagValid := 1, diagPattern := status &&& statusMask p.statusWindowLsb }

end Sys2Proof.Machine
end

