-- ==== Sys2Proof/Machine/TickQuantizer.lean ====
section
/-! DEFINITION. U2, the tick-quantization engine (43_tick_quantizer): SELECT_SHIFT, WINDOW and QUANTIZE. -/

namespace Sys2Proof.Machine

/-- `hibit(x)` for `x ≥ 1`: the index of the highest set bit (00_scope R9). -/
def hibit (x : Nat) : Nat := Nat.log2 x

/-- SELECT_SHIFT (43_tick_quantizer R233), its tests in the source's order. -/
def selectShift (raw : BitVec 64) : BitVec 6 :=
  if raw = 0 then 1
  else if 32 ≤ hibit raw.toNat then 32
  else if hibit raw.toNat < 16 then 1
  else BitVec.ofNat 6 (hibit raw.toNat - 15)

/-- The visible value `(raw >> shift) & 0xFFFF` (43_tick_quantizer R230). -/
def visibleValue (raw : BitVec 64) (shift : Nat) : BitVec 16 := BitVec.ofNat 16 (raw.toNat / 2 ^ shift % 2 ^ 16)

/-- WINDOW (43_tick_quantizer R231). Beyond shift 32, `win_value` is a free value (93 U2-a, log 7). -/
def window (raw : BitVec 64) (shiftIn : BitVec 6) : WindowOut where
  winValue := if shiftIn.toNat ≤ 32 then visibleValue raw shiftIn.toNat else Config.freeWinValue raw shiftIn
  winOk := winOkOf shiftIn

/-- The four outputs of QUANTIZE for a raw count (43_tick_quantizer R234). -/
def quantizeRaw (raw : BitVec 64) : QuantizeOut where
  rawTicks := raw
  shift := selectShift raw
  value := visibleValue raw (selectShift raw).toNat
  over48 := over48Of raw

/-- QUANTIZE (43_tick_quantizer R234). -/
def quantize (p : Params) (durationMs cal : BitVec 32) : QuantizeOut := quantizeRaw (p.ticksFn durationMs cal)

end Sys2Proof.Machine
end

