-- ==== Sys2Proof/Machine/Evaluate.lean ====
section
/-! DEFINITION. The block as a function of its parameters and inputs (10_state R30, 20_memory R69): U1's outputs on success
and on failure (40_decode_core R121), and the outputs of all three units. -/

namespace Sys2Proof.Machine

/-- U1's outputs when `decode(w)` is OK with a record and a rendering (40_decode_core R121). The `selector` and `mode` of a
variant that has none are free values (log 5). -/
def u1Ok (w : Word) (fields : Decoded) (text : Text) : U1Out where
  ok := 1
  reason := 0
  variant := variantTag fields
  selector := (selectorOf fields).getD (Config.freeSelector w)
  mode := (modeOf fields).getD (Config.freeMode w)
  fields := fields
  slots := slotsOf fields
  pseudo := pseudoOf fields
  text := text

/-- U1's outputs when `decode(w)` is FAIL(reason): every output but `ok`, `reason` and the rendering is a free value
(40_decode_core R121, 10_state R31, 93 U1-a, log 5). -/
def u1Fail (w : Word) (reason : Reason) : U1Out where
  ok := 0
  reason := reasonCode reason
  variant := Config.freeVariant w
  selector := Config.freeSelector w
  mode := Config.freeMode w
  fields := Config.freeFields w
  slots := Config.freeSlots w
  pseudo := Config.freePseudo w
  text := fallback w

/-- U1 as a function of `w` (10_state R31, 40_decode_core R120, R121). -/
def u1 (p : Params) (w : Word) : U1Out :=
  match decode p.unusedBitsStrict w with
  | .ok i => u1Ok w (record w i) (template p.periphBase i)
  | .error reason => u1Fail w reason

/-- The outputs of the block for its present inputs (10_state R30, 20_memory R69). -/
def evaluate (p : Params) (inputs : Inputs) : Outputs where
  u1 := u1 p inputs.w
  listing := listing p inputs.program
  quantize := quantize p inputs.durationMs inputs.cal
  select := selectShift inputs.selRaw
  window := window inputs.winRaw inputs.shiftIn
  u3 := decodeState p inputs.status

end Sys2Proof.Machine
end

