-- ==== Sys2Proof/Machine/State.lean ====
section
/-! DEFINITION. The state, the faults and refusals, and the machine after reset. The block itself holds no architectural
state (10_state R30): State holds the signals of 10_state R31 to R34, and what the model needs to step (log 2). -/

namespace Sys2Proof.Machine

/-- The port values around one evaluation of the block. -/
structure State where
  /-- The inputs the caller drives for the coming evaluation (10_state R31, R33, R34). -/
  ports : Inputs
  /-- The inputs the present outputs were computed from, which the caller still holds (60_exceptions R281). The model's own. -/
  held : Inputs
  /-- The outputs of the last evaluation (10_state R31, R33, R34; 42_render R200, R209). -/
  out : Outputs
  /-- How many times the caller has presented inputs: the index of the free inputs (10_state R42). The model's own. -/
  draws : Nat
deriving DecidableEq, Repr

/-- The reasons a read of an output stops. No evaluation of any unit faults (60_exceptions R280, R286): these are answered
by the port reads of Machine/Ops.lean only, never by `exec` or `step`. -/
inductive Fault
  /-- A read of a U1 output other than `ok` and `reason` while `ok = 0` (10_state R31, 93 U1-a). Raised by `readVariant`,
  `readSelector`, `readMode`, `readFields`, `readSlots`, `readPseudo` and the target reads. Safe: the spec asks for it. -/
  | unspecifiedU1Output
  /-- A read of `win_value` while `win_ok = 0` (43_tick_quantizer R231, 93 U2-a). Raised by `readWinValue`. Safe: the spec
  asks for it. -/
  | unspecifiedWinValue
  /-- A read of the BX target field that the addressing mode leaves unused, or of a BX target field of another variant
  (41_decode_alu_branch section 2.1, 92 D9). Raised by `readTargetReg` and `readTargetAddr`. Safe: the spec asks for it. -/
  | unusedTargetField
deriving DecidableEq, Repr

/-- The reasons the model gives an instruction no meaning. -/
inductive Refusal
  /-- The instruction has no meaning in the model. Raised by no arm: every row has its meaning. Safe. -/
  | notModelled (mnemonic : String)
deriving DecidableEq, Repr

/-- The inputs before the caller has driven any: the spec gives the inputs no reset value. DESIGN CHOICE, log 3. -/
def State.resetInputs : Inputs where
  w := 0
  program := []
  durationMs := 0
  cal := 0
  selRaw := 0
  winRaw := 0
  shiftIn := 0
  status := 0

/-- The machine right after reset. The block has nothing to reset: from power-up on, each output is the function of the
present inputs (70_reset_and_hazards R310). -/
def State.reset : State where
  ports := State.resetInputs
  held := State.resetInputs
  out := evaluate build State.resetInputs
  draws := 0

end Sys2Proof.Machine
end

