-- ==== Sys2Proof/Machine/Ops.lean ====
section
/-! DEFINITION. The named operations over the state: driving U1's outputs on success and on failure, completing an
evaluation with the other units, and reading the output ports. The block has no memory, no register and no trap
(10_state R30, 20_memory R60, 60_exceptions R286, R287): there is no exception entry and no return; the failure outcome
is `driveFail`, a value on U1's outputs. -/

namespace Sys2Proof.Machine

/-! ## Driving U1 -/

/-- Puts values on U1's outputs. -/
def State.setU1 (s : State) (o : U1Out) : State := { s with out := { s.out with u1 := o } }

/-- The successful outcome of U1: the word on `w` decoded to this record, with this rendering (40_decode_core R121). -/
def State.driveOk (s : State) (fields : Decoded) (text : Text) : State := s.setU1 (u1Ok s.ports.w fields text)

/-- The failure outcome of U1 (40_decode_core R121, 60_exceptions R281, R283): a value, not a trap. -/
def State.driveFail (s : State) (reason : Reason) : State := s.setU1 (u1Fail s.ports.w reason)

/-! ## Completing an evaluation -/

/-- The inputs the caller presents next: free, drawn anew (10_state R42, log 4). -/
def callerInputs (n : Nat) : Inputs where
  w := Config.callerWord n
  program := Config.callerProgram n
  durationMs := Config.callerDurationMs n
  cal := Config.callerCal n
  selRaw := Config.callerSelRaw n
  winRaw := Config.callerWinRaw n
  shiftIn := Config.callerShiftIn n
  status := Config.callerStatus n

/-- Completes an evaluation once U1 is driven: LISTING, U2 and U3 on the same inputs, the inputs kept as held, and the
caller's next inputs on the ports (10_state R30, R42). -/
def State.complete (s : State) : State where
  ports := callerInputs s.draws
  held := s.ports
  out :=
    { u1 := s.out.u1
      listing := listing build s.ports.program
      quantize := quantize build s.ports.durationMs s.ports.cal
      select := selectShift s.ports.selRaw
      window := window s.ports.winRaw s.ports.shiftIn
      u3 := decodeState build s.ports.status }
  draws := s.draws + 1

/-- Completes the evaluation after U1's outcome; an outcome that stops is kept. -/
def completeOutcome : Host.Outcome State Fault Refusal → Host.Outcome State Fault Refusal
  | .next s => .next s.complete
  | .fault r => .fault r
  | .refused r => .refused r

/-! ## Reading the output ports -/

/-- Reads a U1 output that is specified only when `ok = 1` (10_state R31). -/
def U1Out.whenOk {α : Type} (o : U1Out) (value : α) : Except Fault α :=
  if o.ok = 1 then .ok value else .error .unspecifiedU1Output

def readVariant (o : U1Out) : Except Fault (BitVec 5) := o.whenOk o.variant

def readSelector (o : U1Out) : Except Fault (BitVec 3) := o.whenOk o.selector

def readMode (o : U1Out) : Except Fault (BitVec 1) := o.whenOk o.mode

def readFields (o : U1Out) : Except Fault Decoded := o.whenOk o.fields

def readSlots (o : U1Out) : Except Fault (BitVec 1) := o.whenOk o.slots

def readPseudo (o : U1Out) : Except Fault (BitVec 1) := o.whenOk o.pseudo

/-- Reads the BX target register, which the immediate mode leaves unused (41_decode_alu_branch section 2.1, 92 D9). -/
def readTargetReg (o : U1Out) : Except Fault (BitVec 2) :=
  match readFields o with
  | .error r => .error r
  | .ok (.bx _ .reg dreg _) => .ok dreg
  | .ok _ => .error .unusedTargetField

/-- Reads the BX target PC slot, which the register mode leaves unused (41_decode_alu_branch section 2.1, 92 D9). -/
def readTargetAddr (o : U1Out) : Except Fault (BitVec 11) :=
  match readFields o with
  | .error r => .error r
  | .ok (.bx _ .imm _ addr) => .ok addr
  | .ok _ => .error .unusedTargetField

/-- Reads `win_value`, specified only when `win_ok = 1` (43_tick_quantizer R231). -/
def readWinValue (o : WindowOut) : Except Fault (BitVec 16) :=
  if o.winOk = 1 then .ok o.winValue else .error .unspecifiedWinValue

end Sys2Proof.Machine
end

