-- ==== Sys2Proof/Machine/AluImm.lean ====
section
/-! DEFINITION. The meanings of the ALU_IMM rows (41_decode_alu_branch section 1.2): U1 drives the decoded record and its rendering. Every
op reports `sreg`, MOV included (90 C4). -/

namespace Sys2Proof.Machine

/-- I_ADDI: ALU-Immediate, op add (41_decode_alu_branch R168). -/
def execAddi (dreg sreg : BitVec 2) (imm : BitVec 16) (s : State) :
    Host.Outcome State Fault Refusal :=
  .next (s.driveOk (.aluImm .add dreg sreg imm) (aluImmText "I_ADDI" dreg sreg imm))

/-- I_SUBI: ALU-Immediate, op sub (41_decode_alu_branch R169). -/
def execSubi (dreg sreg : BitVec 2) (imm : BitVec 16) (s : State) :
    Host.Outcome State Fault Refusal :=
  .next (s.driveOk (.aluImm .sub dreg sreg imm) (aluImmText "I_SUBI" dreg sreg imm))

/-- I_ANDI: ALU-Immediate, op and (41_decode_alu_branch R170). -/
def execAndi (dreg sreg : BitVec 2) (imm : BitVec 16) (s : State) :
    Host.Outcome State Fault Refusal :=
  .next (s.driveOk (.aluImm .and dreg sreg imm) (aluImmText "I_ANDI" dreg sreg imm))

/-- I_ORI: ALU-Immediate, op or (41_decode_alu_branch R171). -/
def execOri (dreg sreg : BitVec 2) (imm : BitVec 16) (s : State) :
    Host.Outcome State Fault Refusal :=
  .next (s.driveOk (.aluImm .or dreg sreg imm) (aluImmText "I_ORI" dreg sreg imm))

/-- I_MOVI: ALU-Immediate, op mov (41_decode_alu_branch R172). -/
def execMovi (dreg sreg : BitVec 2) (imm : BitVec 16) (s : State) :
    Host.Outcome State Fault Refusal :=
  .next (s.driveOk (.aluImm .mov dreg sreg imm) (aluImmText "I_MOVI" dreg sreg imm))

/-- I_LSHI: ALU-Immediate, op lsh (41_decode_alu_branch R173). -/
def execLshi (dreg sreg : BitVec 2) (imm : BitVec 16) (s : State) :
    Host.Outcome State Fault Refusal :=
  .next (s.driveOk (.aluImm .lsh dreg sreg imm) (aluImmText "I_LSHI" dreg sreg imm))

/-- I_RSHI: ALU-Immediate, op rsh (41_decode_alu_branch R174). -/
def execRshi (dreg sreg : BitVec 2) (imm : BitVec 16) (s : State) :
    Host.Outcome State Fault Refusal :=
  .next (s.driveOk (.aluImm .rsh dreg sreg imm) (aluImmText "I_RSHI" dreg sreg imm))

end Sys2Proof.Machine
end

