-- ==== Sys2Proof/Machine/AluReg.lean ====
section
/-! DEFINITION. The meanings of the ALU_REG rows (41_decode_alu_branch section 1.1): U1 drives the decoded record and its rendering. Every
op reports `treg`, MOV included (90 C4). -/

namespace Sys2Proof.Machine

/-- I_ADDR: ALU-Register, op add (41_decode_alu_branch R161). -/
def execAddr (dreg sreg treg : BitVec 2) (s : State) :
    Host.Outcome State Fault Refusal :=
  .next (s.driveOk (.aluReg .add dreg sreg treg) (aluRegText "I_ADDR" dreg sreg treg))

/-- I_SUBR: ALU-Register, op sub (41_decode_alu_branch R162). -/
def execSubr (dreg sreg treg : BitVec 2) (s : State) :
    Host.Outcome State Fault Refusal :=
  .next (s.driveOk (.aluReg .sub dreg sreg treg) (aluRegText "I_SUBR" dreg sreg treg))

/-- I_ANDR: ALU-Register, op and (41_decode_alu_branch R163). -/
def execAndr (dreg sreg treg : BitVec 2) (s : State) :
    Host.Outcome State Fault Refusal :=
  .next (s.driveOk (.aluReg .and dreg sreg treg) (aluRegText "I_ANDR" dreg sreg treg))

/-- I_ORR: ALU-Register, op or (41_decode_alu_branch R164). -/
def execOrr (dreg sreg treg : BitVec 2) (s : State) :
    Host.Outcome State Fault Refusal :=
  .next (s.driveOk (.aluReg .or dreg sreg treg) (aluRegText "I_ORR" dreg sreg treg))

/-- I_MOVR: ALU-Register, op mov (41_decode_alu_branch R165). -/
def execMovr (dreg sreg treg : BitVec 2) (s : State) :
    Host.Outcome State Fault Refusal :=
  .next (s.driveOk (.aluReg .mov dreg sreg treg) (aluRegText "I_MOVR" dreg sreg treg))

/-- I_LSHR: ALU-Register, op lsh (41_decode_alu_branch R166). -/
def execLshr (dreg sreg treg : BitVec 2) (s : State) :
    Host.Outcome State Fault Refusal :=
  .next (s.driveOk (.aluReg .lsh dreg sreg treg) (aluRegText "I_LSHR" dreg sreg treg))

/-- I_RSHR: ALU-Register, op rsh (41_decode_alu_branch R167). -/
def execRshr (dreg sreg treg : BitVec 2) (s : State) :
    Host.Outcome State Fault Refusal :=
  .next (s.driveOk (.aluReg .rsh dreg sreg treg) (aluRegText "I_RSHR" dreg sreg treg))

end Sys2Proof.Machine
end

