-- ==== Sys2Proof/Machine/AluStage.lean ====
section
/-! DEFINITION. The meanings of the ALU_STAGE rows (41_decode_alu_branch section 1.3): U1 drives the decoded record and its rendering.
Every op reports `imm`, RST included (90 C4). -/

namespace Sys2Proof.Machine

/-- I_STAGE_INC: ALU-StageCounter, op inc (41_decode_alu_branch R175). -/
def execStageInc (imm : BitVec 8) (s : State) :
    Host.Outcome State Fault Refusal :=
  .next (s.driveOk (.aluStage .inc imm) (aluStageText "I_STAGE_INC" imm))

/-- I_STAGE_DEC: ALU-StageCounter, op dec (41_decode_alu_branch R176). -/
def execStageDec (imm : BitVec 8) (s : State) :
    Host.Outcome State Fault Refusal :=
  .next (s.driveOk (.aluStage .dec imm) (aluStageText "I_STAGE_DEC" imm))

/-- I_STAGE_RST: ALU-StageCounter, op rst (41_decode_alu_branch R177). -/
def execStageRst (imm : BitVec 8) (s : State) :
    Host.Outcome State Fault Refusal :=
  .next (s.driveOk (.aluStage .rst imm) (aluStageText "I_STAGE_RST" imm))

end Sys2Proof.Machine
end

