-- ==== Sys2Proof/Machine/BranchIndirect.lean ====
section
/-! DEFINITION. The meanings of the BX rows (41_decode_alu_branch section 2.1): U1 drives the decoded record and its rendering. Both target
fields are reported; the one the mode leaves unused is not rendered, and its read faults (92 D9). -/

namespace Sys2Proof.Machine

/-- I_BXR: BranchIndirect, unconditional, register (41_decode_alu_branch R179). -/
def execBxr (dreg : BitVec 2) (addr : BitVec 11) (s : State) :
    Host.Outcome State Fault Refusal :=
  .next (s.driveOk (.bx .direct .reg dreg addr) (bxRegText "I_BXR" dreg))

/-- I_BXI: BranchIndirect, unconditional, immediate (41_decode_alu_branch R180). -/
def execBxi (dreg : BitVec 2) (addr : BitVec 11) (s : State) :
    Host.Outcome State Fault Refusal :=
  .next (s.driveOk (.bx .direct .imm dreg addr) (bxImmText "I_BXI" addr))

/-- I_BXZR: BranchIndirect, if zero, register (41_decode_alu_branch R181). -/
def execBxzr (dreg : BitVec 2) (addr : BitVec 11) (s : State) :
    Host.Outcome State Fault Refusal :=
  .next (s.driveOk (.bx .zero .reg dreg addr) (bxRegText "I_BXZR" dreg))

/-- I_BXZI: BranchIndirect, if zero, immediate (41_decode_alu_branch R182). -/
def execBxzi (dreg : BitVec 2) (addr : BitVec 11) (s : State) :
    Host.Outcome State Fault Refusal :=
  .next (s.driveOk (.bx .zero .imm dreg addr) (bxImmText "I_BXZI" addr))

/-- I_BXFR: BranchIndirect, if overflow, register (41_decode_alu_branch R183). -/
def execBxfr (dreg : BitVec 2) (addr : BitVec 11) (s : State) :
    Host.Outcome State Fault Refusal :=
  .next (s.driveOk (.bx .ovf .reg dreg addr) (bxRegText "I_BXFR" dreg))

/-- I_BXFI: BranchIndirect, if overflow, immediate (41_decode_alu_branch R184). -/
def execBxfi (dreg : BitVec 2) (addr : BitVec 11) (s : State) :
    Host.Outcome State Fault Refusal :=
  .next (s.driveOk (.bx .ovf .imm dreg addr) (bxImmText "I_BXFI" addr))

end Sys2Proof.Machine
end

