-- ==== Sys2Proof/Machine/BranchRelative.lean ====
section
/-! DEFINITION. The meanings of the B and BS rows (41_decode_alu_branch sections 2.2 and 2.3): U1 drives the decoded record and its
rendering, and computes no target. -/

namespace Sys2Proof.Machine

/-- I_BL: BranchRelative, less-than (41_decode_alu_branch R185). -/
def execBl (mag : BitVec 7) (sign : BitVec 1) (imm : BitVec 16) (s : State) :
    Host.Outcome State Fault Refusal :=
  .next (s.driveOk (.b .l mag sign imm) (bText "I_BL" mag sign imm))

/-- I_BGE: BranchRelative, greater-or-equal (41_decode_alu_branch R186). -/
def execBge (mag : BitVec 7) (sign : BitVec 1) (imm : BitVec 16) (s : State) :
    Host.Outcome State Fault Refusal :=
  .next (s.driveOk (.b .ge mag sign imm) (bText "I_BGE" mag sign imm))

/-- I_JUMPS_LT: BranchRelativeMulti, less-than (41_decode_alu_branch R187). -/
def execJumpsLt (mag : BitVec 7) (sign : BitVec 1) (imm : BitVec 8) (s : State) :
    Host.Outcome State Fault Refusal :=
  .next (s.driveOk (.bs .lt mag sign imm) (bsText .lt mag sign imm))

/-- I_JUMPS_GE: BranchRelativeMulti, greater-or-equal (41_decode_alu_branch R188). -/
def execJumpsGe (mag : BitVec 7) (sign : BitVec 1) (imm : BitVec 8) (s : State) :
    Host.Outcome State Fault Refusal :=
  .next (s.driveOk (.bs .ge mag sign imm) (bsText .ge mag sign imm))

/-- I_JUMPS_LE: BranchRelativeMulti, less-or-equal (41_decode_alu_branch R189). -/
def execJumpsLe (mag : BitVec 7) (sign : BitVec 1) (imm : BitVec 8) (s : State) :
    Host.Outcome State Fault Refusal :=
  .next (s.driveOk (.bs .le mag sign imm) (bsText .le mag sign imm))

end Sys2Proof.Machine
end

