-- ==== Sys2Proof/Machine/EndProgram.lean ====
section
/-! DEFINITION. The meanings of the end, halt and label rows (40_decode_core sections 5 and 6): U1 drives the decoded record and its
rendering; none of them traps or stops the block (60_exceptions R297). -/

namespace Sys2Proof.Machine

/-- I_HALT: Halt (40_decode_core R130). -/
def execHalt (s : State) :
    Host.Outcome State Fault Refusal :=
  .next (s.driveOk .halt haltText)

/-- I_WAKE: End, kind wake-main-processor (40_decode_core R131). The record's `cycle_sel` is a free value (93 U1-b, log 6). -/
def execWake (s : State) :
    Host.Outcome State Fault Refusal :=
  .next (s.driveOk (.endProgram .wake (Config.freeCycleSel s.ports.w)) wakeText)

/-- I_SLEEP_CYCLE_SEL: End, kind select-sleep-cycle (40_decode_core R132). -/
def execSleepCycleSel (cycleSel : BitVec 4) (s : State) :
    Host.Outcome State Fault Refusal :=
  .next (s.driveOk (.endProgram .sleep cycleSel) (sleepText cycleSel))

/-- M_LABEL: Label (40_decode_core R133), with `slots` 0 and `pseudo` 1 (R121). -/
def execLabel (id : BitVec 16) (s : State) :
    Host.Outcome State Fault Refusal :=
  .next (s.driveOk (.label id) (labelText id))

end Sys2Proof.Machine
end

