-- ==== Sys2Proof/Machine/LoadStore.lean ====
section
/-! DEFINITION. The meanings of the memory access rows (40_decode_core section 4): U1 drives the decoded record and its rendering, and
computes no address. -/

namespace Sys2Proof.Machine

/-- I_ST: Store (40_decode_core R128). -/
def execSt (dreg sreg : BitVec 2) (offset : BitVec 11) (s : State) :
    Host.Outcome State Fault Refusal :=
  .next (s.driveOk (.st dreg sreg offset) (memText "I_ST" dreg sreg offset))

/-- I_LD: Load (40_decode_core R129). -/
def execLd (dreg sreg : BitVec 2) (offset : BitVec 11) (s : State) :
    Host.Outcome State Fault Refusal :=
  .next (s.driveOk (.ld dreg sreg offset) (memText "I_LD" dreg sreg offset))

end Sys2Proof.Machine
end

