-- ==== Sys2Proof/Machine/Measure.lean ====
section
/-! DEFINITION. The meanings of the I2C, delay and measurement rows (40_decode_core section 3): U1 drives the decoded record and its
rendering. -/

namespace Sys2Proof.Machine

/-- I_I2C_RW: I2CTransfer (40_decode_core R124). `data` is reported for a read too. -/
def execI2cRw (subaddr data : BitVec 8) (low high : BitVec 3) (sel : BitVec 4) (rw : BitVec 1) (s : State) :
    Host.Outcome State Fault Refusal :=
  .next (s.driveOk (.i2cRw subaddr data low high sel rw) (i2cRwText subaddr data low high sel rw))

/-- I_DELAY: Delay (40_decode_core R125). -/
def execDelay (cycles : BitVec 16) (s : State) :
    Host.Outcome State Fault Refusal :=
  .next (s.driveOk (.delay cycles) (delayText cycles))

/-- I_ADC: AnalogRead (40_decode_core R126). The record carries the raw `mux`; only the text shows the channel. -/
def execAdc (dreg : BitVec 2) (sarSel : BitVec 1) (mux : BitVec 4) (s : State) :
    Host.Outcome State Fault Refusal :=
  .next (s.driveOk (.adc dreg sarSel mux) (adcText dreg sarSel mux))

/-- I_TSENS: TemperatureSense (40_decode_core R127). -/
def execTsens (dreg : BitVec 2) (waitDelay : BitVec 14) (s : State) :
    Host.Outcome State Fault Refusal :=
  .next (s.driveOk (.tsens dreg waitDelay) (tsensText dreg waitDelay))

end Sys2Proof.Machine
end

