-- ==== Sys2Proof/Machine/Peripheral.lean ====
section
/-! DEFINITION. The meanings of the peripheral register rows (40_decode_core section 2): U1 drives the decoded record and its rendering. -/

namespace Sys2Proof.Machine

/-- I_WR_REG: WriteRegister (40_decode_core R122). -/
def execWrReg (periph : BitVec 2) (addr : BitVec 8) (low high : BitVec 5) (data : BitVec 8) (s : State) :
    Host.Outcome State Fault Refusal :=
  .next (s.driveOk (.wrReg periph addr low high data) (wrRegText build.periphBase periph addr low high data))

/-- I_RD_REG: ReadRegister (40_decode_core R123). -/
def execRdReg (periph : BitVec 2) (addr : BitVec 8) (low high : BitVec 5) (s : State) :
    Host.Outcome State Fault Refusal :=
  .next (s.driveOk (.rdReg periph addr low high) (rdRegText build.periphBase periph addr low high))

end Sys2Proof.Machine
end

