-- ==== Sys2Proof/Machine/Dispatch.lean ====
section
/-! DEFINITION. One arm per instruction: what U1 drives for it. -/

namespace Sys2Proof.Machine

def exec (i : Instr) (s : State) : Host.Outcome State Fault Refusal :=
  match i with
  | .wrReg periph addr low high data => Sys2Proof.Machine.execWrReg periph addr low high data s
  | .rdReg periph addr low high => Sys2Proof.Machine.execRdReg periph addr low high s
  | .i2cRw subaddr data low high sel rw => Sys2Proof.Machine.execI2cRw subaddr data low high sel rw s
  | .delay cycles => Sys2Proof.Machine.execDelay cycles s
  | .adc dreg sarSel mux => Sys2Proof.Machine.execAdc dreg sarSel mux s
  | .st dreg sreg offset => Sys2Proof.Machine.execSt dreg sreg offset s
  | .addr dreg sreg treg => Sys2Proof.Machine.execAddr dreg sreg treg s
  | .subr dreg sreg treg => Sys2Proof.Machine.execSubr dreg sreg treg s
  | .andr dreg sreg treg => Sys2Proof.Machine.execAndr dreg sreg treg s
  | .orr dreg sreg treg => Sys2Proof.Machine.execOrr dreg sreg treg s
  | .movr dreg sreg treg => Sys2Proof.Machine.execMovr dreg sreg treg s
  | .lshr dreg sreg treg => Sys2Proof.Machine.execLshr dreg sreg treg s
  | .rshr dreg sreg treg => Sys2Proof.Machine.execRshr dreg sreg treg s
  | .addi dreg sreg imm => Sys2Proof.Machine.execAddi dreg sreg imm s
  | .subi dreg sreg imm => Sys2Proof.Machine.execSubi dreg sreg imm s
  | .andi dreg sreg imm => Sys2Proof.Machine.execAndi dreg sreg imm s
  | .ori dreg sreg imm => Sys2Proof.Machine.execOri dreg sreg imm s
  | .movi dreg sreg imm => Sys2Proof.Machine.execMovi dreg sreg imm s
  | .lshi dreg sreg imm => Sys2Proof.Machine.execLshi dreg sreg imm s
  | .rshi dreg sreg imm => Sys2Proof.Machine.execRshi dreg sreg imm s
  | .stageInc imm => Sys2Proof.Machine.execStageInc imm s
  | .stageDec imm => Sys2Proof.Machine.execStageDec imm s
  | .stageRst imm => Sys2Proof.Machine.execStageRst imm s
  | .bxr dreg addr => Sys2Proof.Machine.execBxr dreg addr s
  | .bxi dreg addr => Sys2Proof.Machine.execBxi dreg addr s
  | .bxzr dreg addr => Sys2Proof.Machine.execBxzr dreg addr s
  | .bxzi dreg addr => Sys2Proof.Machine.execBxzi dreg addr s
  | .bxfr dreg addr => Sys2Proof.Machine.execBxfr dreg addr s
  | .bxfi dreg addr => Sys2Proof.Machine.execBxfi dreg addr s
  | .bl mag sign imm => Sys2Proof.Machine.execBl mag sign imm s
  | .bge mag sign imm => Sys2Proof.Machine.execBge mag sign imm s
  | .jumpsLt mag sign imm => Sys2Proof.Machine.execJumpsLt mag sign imm s
  | .jumpsGe mag sign imm => Sys2Proof.Machine.execJumpsGe mag sign imm s
  | .jumpsLe mag sign imm => Sys2Proof.Machine.execJumpsLe mag sign imm s
  | .wake => Sys2Proof.Machine.execWake s
  | .sleepCycleSel cycleSel => Sys2Proof.Machine.execSleepCycleSel cycleSel s
  | .tsens dreg waitDelay => Sys2Proof.Machine.execTsens dreg waitDelay s
  | .halt => Sys2Proof.Machine.execHalt s
  | .ld dreg sreg offset => Sys2Proof.Machine.execLd dreg sreg offset s
  | .label id => Sys2Proof.Machine.execLabel id s

end Sys2Proof.Machine
end

