-- ==== Sys2Proof/Machine/Step.lean ====
section
/-! DEFINITION. One step: one evaluation of the block on the inputs the caller drives (10_state R30). -/

namespace Sys2Proof.Machine

/-- One evaluation: U1 decodes the word on `w` and drives its outcome, success or failure, and the other units follow on
the same inputs. No evaluation faults or is refused (60_exceptions R280). -/
def step (s : State) : Host.Outcome State Fault Refusal :=
  match decode build.unusedBitsStrict s.ports.w with
  | .ok i => completeOutcome (exec i s)
  | .error reason => completeOutcome (.next (s.driveFail reason))

/-- The caller drives on `w` the word whose bits are the low `nbits` bits of `w`: the next step evaluates it (log 13). -/
def State.withFetchWord (s : State) (nbits w : Nat) : State :=
  { s with ports := { s.ports with w := BitVec.ofNat 32 (w % 2 ^ nbits) } }

end Sys2Proof.Machine
end

