-- ==== Sys2Proof/Safety.lean ====
section
/-! DEFINITION. What counts as a safe run: the output ports always hold what the rules allow, and stand for the inputs held
with them. No state of a run faults (60_exceptions R280): faults are answered by port reads only. -/

namespace Sys2Proof.Safety

open Sys2Proof.Machine

/-- U1's ports as 40_decode_core R121 and 60_exceptions R281 allow them: a success with reason 0 and the tag, selector,
mode, `slots` and `pseudo` of its record, or a failure with one of the five reason codes. -/
def U1Legal (o : U1Out) : Prop :=
  (o.ok = 1 ∧ o.reason = 0 ∧ o.variant = variantTag o.fields ∧
      (∀ c, selectorOf o.fields = some c → o.selector = c) ∧ (∀ m, modeOf o.fields = some m → o.mode = m) ∧
      o.slots = slotsOf o.fields ∧ o.pseudo = pseudoOf o.fields) ∨
    (o.ok = 0 ∧ ∃ reason, o.reason = reasonCode reason)

/-- The shifts QUANTIZE and SELECT_SHIFT produce: 1 to 16, and 32 (43_tick_quantizer R237). -/
def ShiftLegal (shift : BitVec 6) : Prop := (1 ≤ shift.toNat ∧ shift.toNat ≤ 16) ∨ shift.toNat = 32

/-- QUANTIZE's ports: a legal shift, the window of the raw count at it, and `over48` (43_tick_quantizer R234, R237). -/
def QuantizeLegal (q : QuantizeOut) : Prop :=
  ShiftLegal q.shift ∧ q.value.toNat = q.rawTicks.toNat / 2 ^ q.shift.toNat % 2 ^ 16 ∧
    (q.over48 = 1 ↔ 2 ^ 48 ≤ q.rawTicks.toNat)

/-- U3's ports: 7 is never driven (10_state R35), and the diagnostic is valid exactly when the state is Unknown and is 0
otherwise (10_state R34). -/
def U3Legal (o : U3Out) : Prop :=
  o.state ≠ 7 ∧ (o.diagValid = 1 ↔ o.state = 6) ∧ (o.diagValid = 0 → o.diagPattern = 0)

/-- Every output port holds what the rules allow. -/
def OutputsLegal (o : Outputs) : Prop :=
  U1Legal o.u1 ∧ QuantizeLegal o.quantize ∧ ShiftLegal o.select ∧ U3Legal o.u3

/-- The outputs are the function of the held inputs (10_state R30, 70_reset_and_hazards R310). -/
def Settled (s : State) : Prop := s.out = evaluate build s.held

/-- The invariant of every run. -/
def Inv (s : State) : Prop := OutputsLegal s.out ∧ Settled s

end Sys2Proof.Safety
end

