-- ==== Sys2Proof/Certificates/Slice0/Obligations.lean ====
section
/-! DEFINITION. The statements for the provers. Every statement about a bit position rests on the layout the spec adopts
(92 D2, D3; log 1). -/

namespace Sys2Proof.Claims

open Sys2Proof.Machine

/-- A row's encoding rule: its words decode to its fields under either policy, and a word that only an unused bit keeps from
the row fails with NONZERO_UNUSED under the strict policy (30_encoding R104, R111). -/
def RowRule (pattern strict lenient : Word) (fields : Word → Instr) : Prop :=
  (∀ w, w &&& strict = pattern → decode true w = .ok (fields w)) ∧
    (∀ w, w &&& lenient = pattern → decode false w = .ok (fields w)) ∧
    ∀ w, w &&& lenient = pattern → w &&& strict ≠ pattern → decode true w = .error .nonzeroUnused

/-- The encoding rule of a row with no unused bit: its words decode to its fields under either policy (30_encoding R111). -/
def FullRowRule (pattern mask : Word) (fields : Word → Instr) : Prop :=
  ∀ (strict : Bool) (w : Word), w &&& mask = pattern → decode strict w = .ok (fields w)

/-- Everything but U1's outputs is as before. -/
def OnlyU1Changed (s t : State) : Prop :=
  t.ports = s.ports ∧ t.held = s.held ∧ t.draws = s.draws ∧ t.out.listing = s.out.listing ∧
    t.out.quantize = s.out.quantize ∧ t.out.select = s.out.select ∧ t.out.window = s.out.window ∧ t.out.u3 = s.out.u3

/-- Every read of a U1 output port answers the value on the port, as it does while `ok` is 1 (10_state R31). -/
def ReadsAnswerPorts (o : U1Out) : Prop :=
  readVariant o = .ok o.variant ∧ readSelector o = .ok o.selector ∧ readMode o = .ok o.mode ∧
    readFields o = .ok o.fields ∧ readSlots o = .ok o.slots ∧ readPseudo o = .ok o.pseudo

/-- The instruction completes: U1 drives `ok` 1, `reason` 0, this tag, this selector and mode where the variant has them,
this record, `slots` and `pseudo` (0 and 1 for LABEL, tag 16), and this rendering; each port read answers its port; nothing else
changes (10_state R31, 40_decode_core R121). -/
def Drives (i : Instr) (s : State) (tag : BitVec 5) (selector : Option (BitVec 3)) (mode : Option (BitVec 1))
    (fields : Decoded) (text : Text) : Prop :=
  ∃ t, exec i s = .next t ∧ t.out.u1.ok = 1 ∧ t.out.u1.reason = 0 ∧ t.out.u1.variant = tag ∧
    (∀ c, selector = some c → t.out.u1.selector = c) ∧ (∀ m, mode = some m → t.out.u1.mode = m) ∧
    t.out.u1.fields = fields ∧ t.out.u1.slots = (if tag = 16 then 0 else 1) ∧
    t.out.u1.pseudo = (if tag = 16 then 1 else 0) ∧ t.out.u1.text = text ∧ ReadsAnswerPorts t.out.u1 ∧ OnlyU1Changed s t

/-- `w[31:28]`. -/
def opcode (w : Word) : Nat := slice w 31 28

/-- `w[27:25]`. -/
def subopcode (w : Word) : Nat := slice w 27 25

/-- The BAD_OPCODE condition of 30_encoding R105. -/
def BadOpcode (w : Word) : Prop := opcode w = 0 ∨ opcode w = 12 ∨ opcode w = 14

/-- The BAD_SUBOPCODE condition of 30_encoding R105. -/
def BadSubopcode (w : Word) : Prop :=
  (opcode w = 6 ∧ subopcode w ≠ 4) ∨ (opcode w = 7 ∧ 3 ≤ subopcode w) ∨ (opcode w = 8 ∧ 3 ≤ subopcode w) ∨
    (opcode w = 9 ∧ 2 ≤ subopcode w) ∨ (opcode w = 15 ∧ slice w 27 24 ≠ 0)

/-- The BAD_SELECTOR condition of 30_encoding R105. -/
def BadSelector (w : Word) : Prop :=
  (opcode w = 7 ∧ (subopcode w = 0 ∨ subopcode w = 1) ∧ 7 ≤ slice w 24 21) ∨
    (opcode w = 7 ∧ subopcode w = 2 ∧ 3 ≤ slice w 24 21) ∨
    (opcode w = 8 ∧ subopcode w = 0 ∧ 3 ≤ slice w 24 22) ∨ (opcode w = 8 ∧ subopcode w = 2 ∧ slice w 16 15 = 3)

/-- The BAD_VALUE condition of 30_encoding R105. -/
def BadValue (w : Word) : Prop :=
  (opcode w = 5 ∧ slice w 5 2 = 0) ∨ (opcode w = 9 ∧ subopcode w = 0 ∧ slice w 0 0 = 0)

/-- The unused-bit mask of a row: its strict mask with the lenient mask's bits removed (40_decode_core R120). -/
def unusedMask (row : Row) : Word := strictMask row &&& ~~~lenientMask row

/-- The NONZERO_UNUSED condition of 30_encoding R105, on the masks of R111. -/
def NonzeroUnused (strict : Bool) (w : Word) : Prop :=
  strict = true ∧ ∃ row, w &&& lenientMask row = matchWord row ∧ w &&& unusedMask row ≠ 0

/-- The value of a digit character. -/
def digitValue (c : Char) : Nat := if c.toNat < 97 then c.toNat - 48 else c.toNat - 87

/-- The number a digit sequence stands for. -/
def digitsValue (base : Nat) (digits : Text) : Nat := digits.foldl (fun acc c => acc * base + digitValue c) 0

/-- `0` to `9`. -/
def IsDecDigit (c : Char) : Prop := 48 ≤ c.toNat ∧ c.toNat ≤ 57

/-- `0` to `9` and `a` to `f`. -/
def IsHexDigit (c : Char) : Prop := (48 ≤ c.toNat ∧ c.toNat ≤ 57) ∨ (97 ≤ c.toNat ∧ c.toNat ≤ 102)

end Sys2Proof.Claims

open Sys2Proof Sys2Proof.Machine Sys2Proof.Safety Sys2Proof.Claims

/-! ## Decoding and encoding -/

/-- Words written out from the formats of 30_encoding decode to the instructions they stand for, and failing words to their
reasons (95 V1, V7, V15, V22, V54, V70, V76, V88, V94, V101, S28 to S31). A sanity statement. -/
def Obligations.SampleWordsDecode : Prop :=
  decode true 0x1383FC00 = .ok (.wrReg 0 0 0 7 255) ∧
    decode true 0x38785510 = .ok (.i2cRw 0x10 85 0 7 1 1) ∧
    decode true 0x5000007F = .ok (.adc 3 1 15) ∧
    decode true 0x68001409 = .ok (.st 1 2 5) ∧
    decode true 0x70800039 = .ok (.movr 1 2 3) ∧
    decode true 0x728002A2 = .ok (.movi 2 0 42) ∧
    decode true 0x74400050 = .ok (.stageRst 5) ∧
    decode true 0x80801FFC = .ok (.bxfi 0 2047) ∧
    decode true 0x83070064 = .ok (.bge 3 1 100) ∧
    decode true 0x8505000A = .ok (.jumpsLe 2 1 10) ∧
    decode true 0x90000001 = .ok .wake ∧
    decode true 0xF000FFFF = .ok (.label 65535) ∧
    decode true 0x70E00040 = .error .badSelector ∧ decode true 0x50000100 = .error .badValue ∧
    decode true 0x90000002 = .error .badValue ∧ decode true 0x66000000 = .error .badSubopcode

/-- The canonical word of a well-formed instruction decodes to that instruction under either policy, and renders as its template
(42_render R211, a property the spec derives). Bit layout: log 1. -/
def Obligations.DecodeOfEncode : Prop :=
  ∀ (p : Params) (i : Instr), i.wellFormed = true →
    decode p.unusedBitsStrict (encode i) = .ok i ∧ render p (encode i) = template p.periphBase i

/-- A word accepted under the strict policy is the canonical word of the instruction it decodes to (30_encoding R104). Bit
layout: log 1. -/
def Obligations.EncodeOfDecode : Prop :=
  ∀ (w : Word) (i : Instr), decode true w = .ok i → i.wellFormed = true ∧ encode i = w

/-- A word is accepted exactly when some row of the opcode table accepts it, and it is the row of the instruction decoded
(30_encoding R110, R111, a property the spec derives). Bit layout: log 1. -/
def Obligations.AcceptedWordsAreRowWords : Prop :=
  ∀ (strict : Bool) (w : Word),
    ((∃ i, decode strict w = .ok i) ↔ ∃ row, rowAccepts strict row w = true) ∧
      ∀ i, decode strict w = .ok i → rowAccepts strict i.row w = true

/-- No word is accepted by two rows of the opcode table (30_encoding R110, a property the spec derives). Bit layout: log 1. -/
def Obligations.OpcodeTableRowsDisjoint : Prop :=
  ∀ (strict : Bool) (row other : Row) (w : Word),
    rowAccepts strict row w = true → rowAccepts strict other w = true → row = other

/-- A word fails exactly when a condition of 30_encoding R105 holds, with the first of them as its reason. Bit layout: log 1. -/
def Obligations.FailureReasonIsFirstThatApplies : Prop :=
  ∀ (strict : Bool) (w : Word),
    (decode strict w = .error .badOpcode ↔ BadOpcode w) ∧
      (decode strict w = .error .badSubopcode ↔ ¬BadOpcode w ∧ BadSubopcode w) ∧
      (decode strict w = .error .badSelector ↔ ¬BadOpcode w ∧ ¬BadSubopcode w ∧ BadSelector w) ∧
      (decode strict w = .error .badValue ↔ ¬BadOpcode w ∧ ¬BadSubopcode w ∧ ¬BadSelector w ∧ BadValue w) ∧
      (decode strict w = .error .nonzeroUnused ↔
        ¬BadOpcode w ∧ ¬BadSubopcode w ∧ ¬BadSelector w ∧ ¬BadValue w ∧ NonzeroUnused strict w) ∧
      ((∃ i, decode strict w = .ok i) ↔
        ¬BadOpcode w ∧ ¬BadSubopcode w ∧ ¬BadSelector w ∧ ¬BadValue w ∧ ¬NonzeroUnused strict w)

/-- Words of the unassigned opcodes fail whatever their other bits (40_decode_core R134). Bit layout: log 1. -/
def Obligations.UnassignedOpcodesFail : Prop :=
  (∀ (strict : Bool) (w : Word), slice w 31 28 = 0 ∨ slice w 31 28 = 12 ∨ slice w 31 28 = 14 →
      decode strict w = .error .badOpcode) ∧
    (∀ strict, decode strict 0x00000000 = .error .badOpcode) ∧
    ∀ strict, decode strict 0xFFFFFFFF = .error .badSubopcode

/-- The unused ranges of the formats (30_encoding R84 to R101) are the bits the strict mask adds to the lenient mask
(40_decode_core R120, a property the spec derives). Bit layout: log 1. -/
def Obligations.UnusedRangesAreTheMasks : Prop :=
  ∀ (row : Row) (w : Word), hasUnused row w = true ↔ w &&& unusedMask row ≠ 0

/-! ## The rows, family by family: encoding, completion, outputs and frame -/

/-- I_WR_REG and I_RD_REG (40_decode_core R122, R123). Bit layout: log 1; `PERIPH_BASE`: log 9. -/
def Obligations.PeripheralRows : Prop :=
  FullRowRule 0x10000000 0xF0000000 (fun w => .wrReg (field w 9 8) (field w 7 0) (field w 22 18) (field w 27 23) (field w 17 10)) ∧
    RowRule 0x20000000 0xF003FC00 0xF0000000 (fun w => .rdReg (field w 9 8) (field w 7 0) (field w 22 18) (field w 27 23)) ∧
    decode true 0x1383FC00 = .ok (.wrReg 0 0 0 7 255) ∧
    decode true 0x27800210 = .ok (.rdReg 2 16 0 15) ∧
    decode true 0x27800610 = .error .nonzeroUnused ∧ decode false 0x27800610 = .ok (.rdReg 2 16 0 15) ∧
    (∀ s periph addr low high data, Drives (.wrReg periph addr low high data) s 0 none none
      (.wrReg periph addr low high data)
      (call "I_WR_REG" [hex ((build.periphBase periph).toNat + 4 * addr.toNat), dec low.toNat, dec high.toNat,
        dec data.toNat])) ∧
    ∀ s periph addr low high, Drives (.rdReg periph addr low high) s 1 none none (.rdReg periph addr low high)
      (call "I_RD_REG" [hex ((build.periphBase periph).toNat + 4 * addr.toNat), dec low.toNat, dec high.toNat])

/-- I_I2C_RW and I_DELAY (40_decode_core R124, R125). Bit layout: log 1. -/
def Obligations.I2cAndDelayRows : Prop :=
  RowRule 0x30000000 0xF4000000 0xF0000000 (fun w => .i2cRw (field w 7 0) (field w 15 8) (field w 18 16) (field w 21 19) (field w 25 22)
      (field w 27 27)) ∧
    RowRule 0x40000000 0xFFFF0000 0xF0000000 (fun w => .delay (field w 15 0)) ∧
    decode true 0x38785510 = .ok (.i2cRw 0x10 85 0 7 1 1) ∧
    decode true 0x400003E8 = .ok (.delay 1000) ∧
    (∀ s subaddr data low high sel rw, Drives (.i2cRw subaddr data low high sel rw) s 2 none none
      (.i2cRw subaddr data low high sel rw)
      (call "I_I2C_RW" [hex subaddr.toNat, dec data.toNat, dec low.toNat, dec high.toNat, dec sel.toNat, dec rw.toNat])) ∧
    ∀ s cycles, Drives (.delay cycles) s 3 none none (.delay cycles) (call "I_DELAY" [dec cycles.toNat])

/-- I_ADC and I_TSENS (40_decode_core R126, R127). The words of I_ADC with `mux = 0` fail with BAD_VALUE under either policy,
whatever their unused bits. Bit layout: log 1. -/
def Obligations.AdcAndTsensRows : Prop :=
  (∀ w : Word, w &&& 0xFFFFFF80 = 0x50000000 → slice w 5 2 ≠ 0 →
      decode true w = .ok (.adc (field w 1 0) (field w 6 6) (field w 5 2))) ∧
    (∀ w : Word, w &&& 0xF0000000 = 0x50000000 → slice w 5 2 ≠ 0 →
      decode false w = .ok (.adc (field w 1 0) (field w 6 6) (field w 5 2))) ∧
    (∀ w : Word, w &&& 0xF0000000 = 0x50000000 → slice w 5 2 ≠ 0 → w &&& 0xFFFFFF80 ≠ 0x50000000 →
      decode true w = .error .nonzeroUnused) ∧
    (∀ (strict : Bool) (w : Word), w &&& 0xF0000000 = 0x50000000 → slice w 5 2 = 0 → decode strict w = .error .badValue) ∧
    RowRule 0xA0000000 0xFFFF0000 0xF0000000 (fun w => .tsens (field w 1 0) (field w 15 2)) ∧
    decode true 0x50000005 = .ok (.adc 1 0 1) ∧
    decode true 0x50000001 = .error .badValue ∧
    decode true 0xA0000FA1 = .ok (.tsens 1 1000) ∧
    (∀ s dreg sarSel mux, Drives (.adc dreg sarSel mux) s 4 none none (.adc dreg sarSel mux)
      (call "I_ADC" [reg dreg, dec sarSel.toNat, dec (mux.toNat - 1)])) ∧
    ∀ s dreg waitDelay, Drives (.tsens dreg waitDelay) s 13 none none (.tsens dreg waitDelay)
      (call "I_TSENS" [reg dreg, dec waitDelay.toNat])

/-- I_ST and I_LD (40_decode_core R128, R129). No address is computed. Bit layout: log 1. -/
def Obligations.LoadAndStoreRows : Prop :=
  RowRule 0x68000000 0xFFE003F0 0xFE000000 (fun w => .st (field w 1 0) (field w 3 2) (field w 20 10)) ∧
    (∀ (strict : Bool) (w : Word), slice w 31 28 = 6 → slice w 27 25 ≠ 4 → decode strict w = .error .badSubopcode) ∧
    RowRule 0xD0000000 0xFFE003F0 0xF0000000 (fun w => .ld (field w 1 0) (field w 3 2) (field w 20 10)) ∧
    decode true 0x68001409 = .ok (.st 1 2 5) ∧
    decode true 0x60001409 = .error .badSubopcode ∧
    decode true 0xD0000004 = .ok (.ld 0 1 0) ∧
    decode true 0xD01FFC0F = .ok (.ld 3 3 2047) ∧
    (∀ s dreg sreg offset, Drives (.st dreg sreg offset) s 5 none none (.st dreg sreg offset)
      (call "I_ST" [reg dreg, reg sreg, dec offset.toNat])) ∧
    ∀ s dreg sreg offset, Drives (.ld dreg sreg offset) s 15 none none (.ld dreg sreg offset)
      (call "I_LD" [reg dreg, reg sreg, dec offset.toNat])

/-- I_HALT, I_WAKE, I_SLEEP_CYCLE_SEL and M_LABEL (40_decode_core R130 to R133). The `cycle_sel` of I_WAKE's record is a free
value of `w`, whatever it is (log 6). Bit layout: log 1. -/
def Obligations.EndHaltAndLabelRows : Prop :=
  RowRule 0xB0000000 0xFFFFFFFF 0xF0000000 (fun _ => .halt) ∧
    RowRule 0x90000001 0xFFFFFFFF 0xFE000001 (fun _ => .wake) ∧
    (∀ (strict : Bool) (w : Word), slice w 31 28 = 9 → slice w 27 25 = 0 → slice w 0 0 = 0 →
      decode strict w = .error .badValue) ∧
    RowRule 0x92000000 0xFFFFFFF0 0xFE000000 (fun w => .sleepCycleSel (field w 3 0)) ∧
    RowRule 0xF0000000 0xFFFF0000 0xFF000000 (fun w => .label (field w 15 0)) ∧
    (∀ (strict : Bool) (w : Word), slice w 31 28 = 15 → slice w 27 24 ≠ 0 → decode strict w = .error .badSubopcode) ∧
    (∀ w : Word, decode true w = .ok .halt ↔ w = 0xB0000000) ∧
    decode true 0x90000001 = .ok .wake ∧ decode true 0x90000000 = .error .badValue ∧
    decode true 0x92000004 = .ok (.sleepCycleSel 4) ∧
    decode true 0xF0000000 = .ok (.label 0) ∧ decode true 0xF1000000 = .error .badSubopcode ∧
    (∀ s, Drives .halt s 14 none none .halt (call "I_HALT" [])) ∧
    (∀ s, ∃ c, Drives .wake s 12 (some 0) none (.endProgram .wake c) (call "I_WAKE" [])) ∧
    (∀ s cycleSel, Drives (.sleepCycleSel cycleSel) s 12 (some 1) none (.endProgram .sleep cycleSel)
      (call "I_SLEEP_CYCLE_SEL" [dec cycleSel.toNat])) ∧
    ∀ s id, Drives (.label id) s 16 none none (.label id) (call "M_LABEL" [dec id.toNat])

/-- The seven ALU_REG rows (41_decode_alu_branch R161 to R167). Every op reports and renders `treg`, MOV included (90 C4). Bit
layout: log 1. -/
def Obligations.AluRegRows : Prop :=
  RowRule 0x70000000 0xFFFFFFC0 0xFFE00000 (fun w => .addr (field w 1 0) (field w 3 2) (field w 5 4)) ∧
    RowRule 0x70200000 0xFFFFFFC0 0xFFE00000 (fun w => .subr (field w 1 0) (field w 3 2) (field w 5 4)) ∧
    RowRule 0x70400000 0xFFFFFFC0 0xFFE00000 (fun w => .andr (field w 1 0) (field w 3 2) (field w 5 4)) ∧
    RowRule 0x70600000 0xFFFFFFC0 0xFFE00000 (fun w => .orr (field w 1 0) (field w 3 2) (field w 5 4)) ∧
    RowRule 0x70800000 0xFFFFFFC0 0xFFE00000 (fun w => .movr (field w 1 0) (field w 3 2) (field w 5 4)) ∧
    RowRule 0x70A00000 0xFFFFFFC0 0xFFE00000 (fun w => .lshr (field w 1 0) (field w 3 2) (field w 5 4)) ∧
    RowRule 0x70C00000 0xFFFFFFC0 0xFFE00000 (fun w => .rshr (field w 1 0) (field w 3 2) (field w 5 4)) ∧
    (decode true 0x70000039 = .ok (.addr 1 2 3) ∧
      decode true 0x70200039 = .ok (.subr 1 2 3) ∧
      decode true 0x70400039 = .ok (.andr 1 2 3) ∧
      decode true 0x70600039 = .ok (.orr 1 2 3) ∧
      decode true 0x70800039 = .ok (.movr 1 2 3) ∧
      decode true 0x70A00039 = .ok (.lshr 1 2 3) ∧
      decode true 0x70C00039 = .ok (.rshr 1 2 3)) ∧
    ∀ s dreg sreg treg,
      Drives (.addr dreg sreg treg) s 6 (some 0) none (.aluReg .add dreg sreg treg)
        (call "I_ADDR" [reg dreg, reg sreg, reg treg]) ∧
      Drives (.subr dreg sreg treg) s 6 (some 1) none (.aluReg .sub dreg sreg treg)
        (call "I_SUBR" [reg dreg, reg sreg, reg treg]) ∧
      Drives (.andr dreg sreg treg) s 6 (some 2) none (.aluReg .and dreg sreg treg)
        (call "I_ANDR" [reg dreg, reg sreg, reg treg]) ∧
      Drives (.orr dreg sreg treg) s 6 (some 3) none (.aluReg .or dreg sreg treg)
        (call "I_ORR" [reg dreg, reg sreg, reg treg]) ∧
      Drives (.movr dreg sreg treg) s 6 (some 4) none (.aluReg .mov dreg sreg treg)
        (call "I_MOVR" [reg dreg, reg sreg, reg treg]) ∧
      Drives (.lshr dreg sreg treg) s 6 (some 5) none (.aluReg .lsh dreg sreg treg)
        (call "I_LSHR" [reg dreg, reg sreg, reg treg]) ∧
      Drives (.rshr dreg sreg treg) s 6 (some 6) none (.aluReg .rsh dreg sreg treg)
        (call "I_RSHR" [reg dreg, reg sreg, reg treg])

/-- The seven ALU_IMM rows (41_decode_alu_branch R168 to R174). Every op reports and renders `sreg`, MOV included (90 C4). Bit
layout: log 1. -/
def Obligations.AluImmRows : Prop :=
  RowRule 0x72000000 0xFFF00000 0xFFE00000 (fun w => .addi (field w 1 0) (field w 3 2) (field w 19 4)) ∧
    RowRule 0x72200000 0xFFF00000 0xFFE00000 (fun w => .subi (field w 1 0) (field w 3 2) (field w 19 4)) ∧
    RowRule 0x72400000 0xFFF00000 0xFFE00000 (fun w => .andi (field w 1 0) (field w 3 2) (field w 19 4)) ∧
    RowRule 0x72600000 0xFFF00000 0xFFE00000 (fun w => .ori (field w 1 0) (field w 3 2) (field w 19 4)) ∧
    RowRule 0x72800000 0xFFF00000 0xFFE00000 (fun w => .movi (field w 1 0) (field w 3 2) (field w 19 4)) ∧
    RowRule 0x72A00000 0xFFF00000 0xFFE00000 (fun w => .lshi (field w 1 0) (field w 3 2) (field w 19 4)) ∧
    RowRule 0x72C00000 0xFFF00000 0xFFE00000 (fun w => .rshi (field w 1 0) (field w 3 2) (field w 19 4)) ∧
    (decode true 0x720FFFF4 = .ok (.addi 0 1 65535) ∧
      decode true 0x722FFFF4 = .ok (.subi 0 1 65535) ∧
      decode true 0x724FFFF4 = .ok (.andi 0 1 65535) ∧
      decode true 0x726FFFF4 = .ok (.ori 0 1 65535) ∧
      decode true 0x728FFFF4 = .ok (.movi 0 1 65535) ∧
      decode true 0x72AFFFF4 = .ok (.lshi 0 1 65535) ∧
      decode true 0x72CFFFF4 = .ok (.rshi 0 1 65535)) ∧
    decode true 0x728002A2 = .ok (.movi 2 0 42) ∧
    ∀ s dreg sreg imm,
      Drives (.addi dreg sreg imm) s 7 (some 0) none (.aluImm .add dreg sreg imm)
        (call "I_ADDI" [reg dreg, reg sreg, dec imm.toNat]) ∧
      Drives (.subi dreg sreg imm) s 7 (some 1) none (.aluImm .sub dreg sreg imm)
        (call "I_SUBI" [reg dreg, reg sreg, dec imm.toNat]) ∧
      Drives (.andi dreg sreg imm) s 7 (some 2) none (.aluImm .and dreg sreg imm)
        (call "I_ANDI" [reg dreg, reg sreg, dec imm.toNat]) ∧
      Drives (.ori dreg sreg imm) s 7 (some 3) none (.aluImm .or dreg sreg imm)
        (call "I_ORI" [reg dreg, reg sreg, dec imm.toNat]) ∧
      Drives (.movi dreg sreg imm) s 7 (some 4) none (.aluImm .mov dreg sreg imm)
        (call "I_MOVI" [reg dreg, reg sreg, dec imm.toNat]) ∧
      Drives (.lshi dreg sreg imm) s 7 (some 5) none (.aluImm .lsh dreg sreg imm)
        (call "I_LSHI" [reg dreg, reg sreg, dec imm.toNat]) ∧
      Drives (.rshi dreg sreg imm) s 7 (some 6) none (.aluImm .rsh dreg sreg imm)
        (call "I_RSHI" [reg dreg, reg sreg, dec imm.toNat])

/-- The three ALU_STAGE rows (41_decode_alu_branch R175 to R177). Every op reports and renders `imm`, RST included (90 C4). Bit
layout: log 1. -/
def Obligations.AluStageRows : Prop :=
  RowRule 0x74000000 0xFFFFF00F 0xFFE00000 (fun w => .stageInc (field w 11 4)) ∧
    RowRule 0x74200000 0xFFFFF00F 0xFFE00000 (fun w => .stageDec (field w 11 4)) ∧
    RowRule 0x74400000 0xFFFFF00F 0xFFE00000 (fun w => .stageRst (field w 11 4)) ∧
    (decode true 0x74000050 = .ok (.stageInc 5) ∧ decode true 0x74200050 = .ok (.stageDec 5) ∧
      decode true 0x74400050 = .ok (.stageRst 5) ∧ decode true 0x74400000 = .ok (.stageRst 0)) ∧
    ∀ s imm,
      Drives (.stageInc imm) s 8 (some 0) none (.aluStage .inc imm) (call "I_STAGE_INC" [dec imm.toNat]) ∧
      Drives (.stageDec imm) s 8 (some 1) none (.aluStage .dec imm) (call "I_STAGE_DEC" [dec imm.toNat]) ∧
      Drives (.stageRst imm) s 8 (some 2) none (.aluStage .rst imm) (call "I_STAGE_RST" [dec imm.toNat])

/-- The six BX rows (41_decode_alu_branch section 2.1, R179 to R184). Both target fields are reported, whatever the field the mode
leaves unused holds (section 2.1); only the other is rendered (42_render R207). Types 3 to 7 fail (R178). Bit layout: log 1. -/
def Obligations.BranchIndirectRows : Prop :=
  RowRule 0x80200000 0xFFFFFFFC 0xFFE00000 (fun w => .bxr (field w 1 0) (field w 12 2)) ∧
    RowRule 0x80000000 0xFFFFE003 0xFFE00000 (fun w => .bxi (field w 1 0) (field w 12 2)) ∧
    RowRule 0x80600000 0xFFFFFFFC 0xFFE00000 (fun w => .bxzr (field w 1 0) (field w 12 2)) ∧
    RowRule 0x80400000 0xFFFFE003 0xFFE00000 (fun w => .bxzi (field w 1 0) (field w 12 2)) ∧
    RowRule 0x80A00000 0xFFFFFFFC 0xFFE00000 (fun w => .bxfr (field w 1 0) (field w 12 2)) ∧
    RowRule 0x80800000 0xFFFFE003 0xFFE00000 (fun w => .bxfi (field w 1 0) (field w 12 2)) ∧
    (∀ (strict : Bool) (w : Word), slice w 31 28 = 8 → slice w 27 25 = 0 → 3 ≤ slice w 24 22 →
      decode strict w = .error .badSelector) ∧
    decode true 0x80200002 = .ok (.bxr 2 0) ∧ decode true 0x80200016 = .error .nonzeroUnused ∧
    decode true 0x80001FFC = .ok (.bxi 0 2047) ∧ decode true 0x80000015 = .error .nonzeroUnused ∧
    decode true 0x80600002 = .ok (.bxzr 2 0) ∧ decode true 0x80401FFC = .ok (.bxzi 0 2047) ∧
    decode true 0x80A00002 = .ok (.bxfr 2 0) ∧ decode true 0x80801FFC = .ok (.bxfi 0 2047) ∧
    decode true 0x80C00000 = .error .badSelector ∧
    ∀ s dreg addr,
      Drives (.bxr dreg addr) s 9 (some 0) (some 1) (.bx .direct .reg dreg addr)
        (call "I_BXR" [reg dreg]) ∧
      Drives (.bxi dreg addr) s 9 (some 0) (some 0) (.bx .direct .imm dreg addr)
        (call "I_BXI" [hex addr.toNat]) ∧
      Drives (.bxzr dreg addr) s 9 (some 1) (some 1) (.bx .zero .reg dreg addr)
        (call "I_BXZR" [reg dreg]) ∧
      Drives (.bxzi dreg addr) s 9 (some 1) (some 0) (.bx .zero .imm dreg addr)
        (call "I_BXZI" [hex addr.toNat]) ∧
      Drives (.bxfr dreg addr) s 9 (some 2) (some 1) (.bx .ovf .reg dreg addr)
        (call "I_BXFR" [reg dreg]) ∧
      Drives (.bxfi dreg addr) s 9 (some 2) (some 0) (.bx .ovf .imm dreg addr)
        (call "I_BXFI" [hex addr.toNat])

/-- I_BL and I_BGE (41_decode_alu_branch R185, R186): a sub-opcode 1 word is always accepted, and -0 is kept apart from +0. Bit
layout: log 1. -/
def Obligations.BranchRelativeRows : Prop :=
  FullRowRule 0x82000000 0xFE010000 (fun w => .bl (field w 23 17) (field w 24 24) (field w 15 0)) ∧
    FullRowRule 0x82010000 0xFE010000 (fun w => .bge (field w 23 17) (field w 24 24) (field w 15 0)) ∧
    (∀ (strict : Bool) (w : Word), slice w 31 25 = 0b1000001 → ∃ i, decode strict w = .ok i) ∧
    decode true 0x82060064 = .ok (.bl 3 0 100) ∧ decode true 0x83000000 = .ok (.bl 0 1 0) ∧
    decode true 0x83070064 = .ok (.bge 3 1 100) ∧ decode true 0x82FFFFFF = .ok (.bge 127 0 65535) ∧
    (∀ s imm, exec (.bl 0 1 imm) s ≠ exec (.bl 0 0 imm) s) ∧
    ∀ s mag sign imm,
      Drives (.bl mag sign imm) s 10 (some 0) none (.b .l mag sign imm) (call "I_BL" [off sign mag, dec imm.toNat]) ∧
      Drives (.bge mag sign imm) s 10 (some 1) none (.b .ge mag sign imm) (call "I_BGE" [off sign mag, dec imm.toNat])

/-- I_JUMPS_LT, I_JUMPS_GE and I_JUMPS_LE (41_decode_alu_branch R187 to R189). Bit layout: log 1. -/
def Obligations.BranchRelativeMultiRows : Prop :=
  RowRule 0x84000000 0xFE01FF00 0xFE018000 (fun w => .jumpsLt (field w 23 17) (field w 24 24) (field w 7 0)) ∧
    RowRule 0x84008000 0xFE01FF00 0xFE018000 (fun w => .jumpsGe (field w 23 17) (field w 24 24) (field w 7 0)) ∧
    RowRule 0x84010000 0xFE01FF00 0xFE018000 (fun w => .jumpsLe (field w 23 17) (field w 24 24) (field w 7 0)) ∧
    (∀ (strict : Bool) (w : Word), slice w 31 28 = 8 → slice w 27 25 = 2 → slice w 16 15 = 3 →
      decode strict w = .error .badSelector) ∧
    decode true 0x8504000A = .ok (.jumpsLt 2 1 10) ∧ decode true 0x8504800A = .ok (.jumpsGe 2 1 10) ∧
    decode true 0x8505000A = .ok (.jumpsLe 2 1 10) ∧
    decode true 0x84018000 = .error .badSelector ∧ decode true 0x84000100 = .error .nonzeroUnused ∧
    (∀ s imm, exec (.jumpsLt 0 1 imm) s ≠ exec (.jumpsLt 0 0 imm) s) ∧
    ∀ s mag sign imm,
      Drives (.jumpsLt mag sign imm) s 11 (some 0) none (.bs .lt mag sign imm)
        (call "I_JUMPS" [off sign mag, dec imm.toNat, "JUMPS_LT".toList]) ∧
      Drives (.jumpsGe mag sign imm) s 11 (some 1) none (.bs .ge mag sign imm)
        (call "I_JUMPS" [off sign mag, dec imm.toNat, "JUMPS_GE".toList]) ∧
      Drives (.jumpsLe mag sign imm) s 11 (some 2) none (.bs .le mag sign imm)
        (call "I_JUMPS" [off sign mag, dec imm.toNat, "JUMPS_LE".toList])

/-! ## The step and the ports -/

/-- When the word on `w` decodes to an instruction, the step is that instruction's meaning, completed: U2, U3 and LISTING on the same
inputs, those inputs kept as held, and the caller's next inputs on the ports (10_state R30, R42; log 2, log 4). -/
def Obligations.StepRunsDecodedInstruction : Prop :=
  ∀ (s : State) (i : Instr), decode true s.ports.w = .ok i →
    step s = completeOutcome (exec i s) ∧
      ∀ u, exec i s = .next u → ∃ t, step s = .next t ∧ t.out.u1 = u.out.u1 ∧
        t.out.listing = listing build s.ports.program ∧
        t.out.quantize = quantize build s.ports.durationMs s.ports.cal ∧ t.out.select = selectShift s.ports.selRaw ∧
        t.out.window = window s.ports.winRaw s.ports.shiftIn ∧ t.out.u3 = decodeState build s.ports.status ∧
        t.held = s.ports ∧ t.ports = callerInputs s.draws ∧ t.draws = s.draws + 1

/-- A failing word is no trap: the evaluation completes with `ok` 0, the reason's code and the fallback, a read of any other U1
output faults, and LISTING, QUANTIZE, SELECT_SHIFT, WINDOW and U3 are evaluated on the same inputs (10_state R30, R31, R33,
40_decode_core R121, 60_exceptions R281, R283, 42_render R208; the next inputs: log 2, log 4). -/
def Obligations.FailingWordDrivesFailure : Prop :=
  ∀ (s : State) (reason : Reason), decode true s.ports.w = .error reason →
    ∃ t, step s = .next t ∧ t.out.u1.ok = 0 ∧
      t.out.u1.reason = (match reason with
        | .badOpcode => 1 | .badSubopcode => 2 | .badSelector => 3 | .badValue => 4 | .nonzeroUnused => 5) ∧
      t.out.u1.text = fallback s.ports.w ∧
      readVariant t.out.u1 = .error .unspecifiedU1Output ∧ readSelector t.out.u1 = .error .unspecifiedU1Output ∧
      readMode t.out.u1 = .error .unspecifiedU1Output ∧ readFields t.out.u1 = .error .unspecifiedU1Output ∧
      readSlots t.out.u1 = .error .unspecifiedU1Output ∧ readPseudo t.out.u1 = .error .unspecifiedU1Output ∧
      readTargetReg t.out.u1 = .error .unspecifiedU1Output ∧ readTargetAddr t.out.u1 = .error .unspecifiedU1Output ∧
      t.out.listing = listing build s.ports.program ∧
      t.out.quantize = quantize build s.ports.durationMs s.ports.cal ∧ t.out.select = selectShift s.ports.selRaw ∧
      t.out.window = window s.ports.winRaw s.ports.shiftIn ∧ t.out.u3 = decodeState build s.ports.status ∧
      t.held = s.ports ∧ t.ports = callerInputs s.draws ∧ t.draws = s.draws + 1

/-- Every evaluation completes: no step faults or is refused (60_exceptions R280, R286). -/
def Obligations.StepAlwaysCompletes : Prop :=
  ∀ s : State, ∃ t, step s = .next t

/-- The machine that runs one meaning per instruction computes the block's function: each output is the function of the present
inputs (10_state R30, 20_memory R69, 70_reset_and_hazards R310). -/
def Obligations.StepIsTheBlockFunction : Prop :=
  ∀ s : State, ∃ t, step s = .next t ∧ t.held = s.ports ∧ t.out = evaluate build s.ports

/-- Each unit's outputs are a function of that unit's inputs alone, whatever else the two states hold (20_memory R69,
60_exceptions R288). -/
def Obligations.UnitsDependOnTheirOwnInputsOnly : Prop :=
  ∀ s₁ s₂ t₁ t₂ : State, step s₁ = .next t₁ → step s₂ = .next t₂ →
    (s₁.ports.w = s₂.ports.w → t₁.out.u1 = t₂.out.u1) ∧
      (s₁.ports.program = s₂.ports.program → t₁.out.listing = t₂.out.listing) ∧
      (s₁.ports.durationMs = s₂.ports.durationMs → s₁.ports.cal = s₂.ports.cal → t₁.out.quantize = t₂.out.quantize) ∧
      (s₁.ports.selRaw = s₂.ports.selRaw → t₁.out.select = t₂.out.select) ∧
      (s₁.ports.winRaw = s₂.ports.winRaw → s₁.ports.shiftIn = s₂.ports.shiftIn → t₁.out.window = t₂.out.window) ∧
      (s₁.ports.status = s₂.ports.status → t₁.out.u3 = t₂.out.u3)

/-- A step keeps the ports legal and the outputs the function of the held inputs (10_state R30, R34, R35, 40_decode_core R121,
43_tick_quantizer R237, 60_exceptions R281). -/
def Obligations.StepKeepsInvariant : Prop :=
  ∀ s t : State, Inv s → step s = .next t → Inv t

/-- The machine after reset meets the invariant: its outputs are the function of its inputs (70_reset_and_hazards R310; the inputs'
values are the model's choice, log 3). -/
def Obligations.ResetMeetsInvariant : Prop :=
  Inv State.reset

/-- Every meaning completes, keeps legal ports legal and changes U1's outputs only (40_decode_core R121, 60_exceptions R288). -/
def Obligations.MeaningsKeepPortsLegal : Prop :=
  ∀ (i : Instr) (s : State), OutputsLegal s.out → ∃ t, exec i s = .next t ∧ OutputsLegal t.out ∧ OnlyU1Changed s t

/-- Of the two BX target fields, the read of the one the mode reads answers it, and the read of the other faults (92 D9, log 8). -/
def Obligations.BranchTargetReads : Prop :=
  ∀ s dreg addr, ∀ i ∈ [Instr.bxr dreg addr, .bxzr dreg addr, .bxfr dreg addr],
    ∀ j ∈ [Instr.bxi dreg addr, .bxzi dreg addr, .bxfi dreg addr],
    (∃ t, exec i s = .next t ∧ readTargetReg t.out.u1 = .ok dreg ∧ readTargetAddr t.out.u1 = .error .unusedTargetField) ∧
      ∃ t, exec j s = .next t ∧ readTargetAddr t.out.u1 = .ok addr ∧ readTargetReg t.out.u1 = .error .unusedTargetField

/-! ## Rendering -/

/-- The rendering examples of 42_render R214, at the default build. -/
def Obligations.RenderExamples : Prop :=
  render build 0x1383FC00 = "I_WR_REG(0x3ff48000, 0, 7, 255)".toList ∧
    render build 0x27800210 = "I_RD_REG(0x3ff48840, 0, 15)".toList ∧
    render build 0x38785510 = "I_I2C_RW(0x10, 85, 0, 7, 1, 1)".toList ∧
    render build 0x400003E8 = "I_DELAY(1000)".toList ∧
    render build 0x5000007F = "I_ADC(R3, 1, 14)".toList ∧
    render build 0x68001409 = "I_ST(R1, R2, 5)".toList ∧
    render build 0x70800039 = "I_MOVR(R1, R2, R3)".toList ∧
    render build 0x728002A2 = "I_MOVI(R2, R0, 42)".toList ∧
    render build 0x74400050 = "I_STAGE_RST(5)".toList ∧
    render build 0x80001FFC = "I_BXI(0x7ff)".toList ∧
    render build 0x80600002 = "I_BXZR(R2)".toList ∧
    render build 0x83070064 = "I_BGE(-3, 100)".toList ∧
    render build 0x83000000 = "I_BL(-0, 0)".toList ∧
    render build 0x8505000A = "I_JUMPS(-2, 10, JUMPS_LE)".toList ∧
    render build 0x90000001 = "I_WAKE()".toList ∧
    render build 0x92000004 = "I_SLEEP_CYCLE_SEL(4)".toList ∧
    render build 0xA0000FA1 = "I_TSENS(R1, 1000)".toList ∧
    render build 0xB0000000 = "I_HALT()".toList ∧
    render build 0xD01FFC0F = "I_LD(R3, R3, 2047)".toList ∧
    render build 0xF000FFFF = "M_LABEL(65535)".toList ∧
    render build 0xFFFFFFFF = Char.ofNat 123 :: " .instruction = 0xffffffff ".toList ++ [Char.ofNat 125]

/-- `dec` and `hex` write the number, in their digits, with no leading zero and `0` for zero; `reg` and `off` are built from `dec`
(42_render R202, R203, R204). -/
def Obligations.NumberForms : Prop :=
  (∀ n, digitsValue 10 (dec n) = n ∧ (∀ c ∈ dec n, IsDecDigit c) ∧ dec n ≠ [] ∧
      ((dec n).head? = some '0' → dec n = ['0'])) ∧
    (∀ n, ∃ digits, hex n = '0' :: 'x' :: digits ∧ digitsValue 16 digits = n ∧ (∀ c ∈ digits, IsHexDigit c) ∧
      digits ≠ [] ∧ (digits.head? = some '0' → digits = ['0'])) ∧
    (∀ i, reg i = 'R' :: dec i.toNat) ∧ (∀ mag, off 0 mag = dec mag.toNat) ∧ ∀ mag, off 1 mag = '-' :: dec mag.toNat

/-- The fallback is the C initializer of the word with exactly 8 lowercase hexadecimal digits that stand for it (42_render R208). -/
def Obligations.FallbackNamesItsWord : Prop :=
  ∀ (p : Params) (w : Word) (reason : Reason), decode p.unusedBitsStrict w = .error reason →
    ∃ digits, render p w = Char.ofNat 123 :: " .instruction = 0x".toList ++ digits ++ [' ', Char.ofNat 125] ∧
      digits.length = 8 ∧ (∀ c ∈ digits, IsHexDigit c) ∧ digitsValue 16 digits = w.toNat

/-- A rendering is printable ASCII, never empty, with no white space at either end and no line terminator (42_render R201). -/
def Obligations.RenderingIsPrintableAscii : Prop :=
  ∀ (p : Params) (w : Word), (∀ c ∈ render p w, 32 ≤ c.toNat ∧ c.toNat ≤ 126) ∧
    ∃ first middle last, render p w = first :: middle ++ [last] ∧ first ≠ ' ' ∧ last ≠ ' '

/-- Under the strict policy, with disjoint peripheral regions, the rendering determines the word, failing words included
(42_render R210, a property the spec derives). -/
def Obligations.RenderingDeterminesWord : Prop :=
  ∀ p : Params, p.unusedBitsStrict = true → RegionsDisjoint p.periphBase →
    ∀ w₁ w₂ : Word, render p w₁ = render p w₂ → w₁ = w₂

/-- LISTING gives every word its rendering, a comma and a line feed, in order, and the empty text for the empty sequence, so it has
one line per word (42_render R209). -/
def Obligations.ListingHasOneLinePerWord : Prop :=
  ∀ p : Params, listing p [] = [] ∧ (∀ w ws, listing p (w :: ws) = render p w ++ ",\n".toList ++ listing p ws) ∧
    (∀ xs ys, listing p (xs ++ ys) = listing p xs ++ listing p ys) ∧ ∀ ws, (listing p ws).count '\n' = ws.length

/-- Under the strict policy, with disjoint peripheral regions, a listing determines its words (42_render R210, last sentence, a
property the spec derives). -/
def Obligations.ListingDeterminesProgram : Prop :=
  ∀ p : Params, p.unusedBitsStrict = true → RegionsDisjoint p.periphBase →
    ∀ xs ys : List Word, listing p xs = listing p ys → xs = ys

/-- Under the lenient policy a word renders as the word with its unused bits cleared, which renders the same under either policy
(42_render R212, a property the spec derives). -/
def Obligations.LenientRenderingIgnoresUnusedBits : Prop :=
  (∀ (p : Params) (w : Word) (i : Instr), decode false w = .ok i →
      render { p with unusedBitsStrict := false } (w &&& ~~~unusedMask i.row) =
          render { p with unusedBitsStrict := false } w ∧
        render { p with unusedBitsStrict := true } (w &&& ~~~unusedMask i.row) =
          render { p with unusedBitsStrict := false } w) ∧
    render { build with unusedBitsStrict := false } 0x80200016 = "I_BXR(R2)".toList ∧
    render { build with unusedBitsStrict := false } 0x80200002 = "I_BXR(R2)".toList

/-- A rendered peripheral address is the exact sum of base and 4 × addr, a multiple of 4 when the bases are, and at the default build
lies between 0x3FF48000 and 0x3FF48FFC (42_render R205, 20_memory R63). `PERIPH_BASE`: log 9. -/
def Obligations.PeripheralAddresses : Prop :=
  (∀ (base : BitVec 2 → Word) periph addr, periphAddress base periph addr = (base periph).toNat + 4 * addr.toNat) ∧
    (∀ (base : BitVec 2 → Word) periph addr, (∀ i, (base i).toNat % 4 = 0) → periphAddress base periph addr % 4 = 0) ∧
    ∀ periph addr, periphAddress build.periphBase periph addr % 4 = 0 ∧
      0x3FF48000 ≤ periphAddress build.periphBase periph addr ∧ periphAddress build.periphBase periph addr ≤ 0x3FF48FFC

/-- A branch offset is its magnitude or the negative of it by the sign bit, between -127 and 127; the two encodings of zero stand for
one value and render differently (30_encoding R102, 42_render R204). -/
def Obligations.BranchOffsets : Prop :=
  (∀ mag : BitVec 7, offsetValue 0 mag = mag.toNat ∧ offsetValue 1 mag = -(mag.toNat : Int)) ∧
    (∀ sign mag, -127 ≤ offsetValue sign mag ∧ offsetValue sign mag ≤ 127) ∧
    offsetValue 1 0 = offsetValue 0 0 ∧ off 1 0 = "-0".toList ∧ off 0 0 = "0".toList

/-! ## U2, the tick-quantization engine -/

/-- SELECT_SHIFT by the index of the highest set bit (43_tick_quantizer R233, 00_scope R9). -/
def Obligations.SelectShiftCases : Prop :=
  selectShift 0 = 1 ∧
    ∀ (raw : BitVec 64) (h : Nat), 2 ^ h ≤ raw.toNat → raw.toNat < 2 ^ (h + 1) →
      (32 ≤ h → selectShift raw = 32) ∧ (h < 16 → selectShift raw = 1) ∧
        (16 ≤ h → h ≤ 31 → (selectShift raw).toNat = h - 15)

/-- The shift and value of a count by its range (43_tick_quantizer R237, a property the spec derives). -/
def Obligations.ShiftAndValueRanges : Prop :=
  ∀ raw : BitVec 64, let q := quantizeRaw raw
    ShiftLegal q.shift ∧
      (raw.toNat < 2 ^ 16 → q.shift = 1 ∧ q.value.toNat = raw.toNat / 2 ∧ q.value.toNat ≤ 0x7FFF) ∧
      (2 ^ 16 ≤ raw.toNat → raw.toNat < 2 ^ 32 → 2 ^ (q.shift.toNat + 15) ≤ raw.toNat ∧
        raw.toNat < 2 ^ (q.shift.toNat + 16) ∧ 0x8000 ≤ q.value.toNat) ∧
      (2 ^ 32 ≤ raw.toNat → raw.toNat < 2 ^ 48 →
        q.shift = 32 ∧ q.value.toNat = raw.toNat / 2 ^ 32 ∧ 1 ≤ q.value.toNat) ∧
      (2 ^ 48 ≤ raw.toNat → q.shift = 32 ∧ q.value.toNat = raw.toNat / 2 ^ 32 % 2 ^ 16)

/-- Below 2^48 no set bit lies above the selected window, so the mask removes nothing, and from a count of 2 on the highest set bit
lies in the window (43_tick_quantizer R238, a property the spec derives; a count of 1 has its only bit in the excluded bit 0, R233). -/
def Obligations.MostSignificantBitKept : Prop :=
  ∀ raw : BitVec 64, raw.toNat < 2 ^ 48 →
    raw.toNat / 2 ^ (selectShift raw).toNat < 2 ^ 16 ∧
      (quantizeRaw raw).value.toNat = raw.toNat / 2 ^ (selectShift raw).toNat ∧
      ∀ h, 2 ≤ raw.toNat → 2 ^ h ≤ raw.toNat → raw.toNat < 2 ^ (h + 1) →
        (selectShift raw).toNat ≤ h ∧ h ≤ (selectShift raw).toNat + 15

/-- Reconstructing a count below 2^48 from its pair falls short by less than 2^shift, and the bound fails at 2^48 (43_tick_quantizer
R239, 90 C2, a property the spec derives). -/
def Obligations.ResolutionBound : Prop :=
  (∀ raw : BitVec 64, raw.toNat < 2 ^ 48 → let q := quantizeRaw raw
      q.value.toNat * 2 ^ q.shift.toNat ≤ raw.toNat ∧
        raw.toNat - q.value.toNat * 2 ^ q.shift.toNat < 2 ^ q.shift.toNat) ∧
    let q := quantizeRaw 0x1000000000000
    2 ^ q.shift.toNat ≤ 0x1000000000000 - q.value.toNat * 2 ^ q.shift.toNat

/-- Where the shift of SELECT_SHIFT is the least whose window has no set bit above it: from 2^16 below 2^32, and from 2^47 below 2^48.
Below 2^16 shift 0 would do and 1 is selected; from 2^32 below 2^47, h the highest set bit, the least such shift is h - 15,
from 17 to 31, and 32 is selected, coarser by 2^(47 - h). 43_tick_quantizer R240 (a property the spec derives) says a window that "holds every set bit";
reading it as no set bit above the window is the model's (DEDUCED, log 18). -/
def Obligations.TightestWindow : Prop :=
  (∀ raw : BitVec 64, raw.toNat < 2 ^ 16 → (∀ s : Nat, raw.toNat / 2 ^ s < 2 ^ 16) ∧ selectShift raw = 1) ∧
    (∀ raw : BitVec 64, 2 ^ 16 ≤ raw.toNat → raw.toNat < 2 ^ 32 →
      ∀ s : Nat, raw.toNat / 2 ^ s < 2 ^ 16 ↔ (selectShift raw).toNat ≤ s) ∧
    (∀ (raw : BitVec 64) (h : Nat), 2 ^ h ≤ raw.toNat → raw.toNat < 2 ^ (h + 1) → 32 ≤ h → h < 47 →
      (∀ s : Nat, raw.toNat / 2 ^ s < 2 ^ 16 ↔ h - 15 ≤ s) ∧ 17 ≤ h - 15 ∧ h - 15 ≤ 31 ∧
        2 ^ (selectShift raw).toNat = 2 ^ (47 - h) * 2 ^ (h - 15)) ∧
    (∀ raw : BitVec 64, 2 ^ 47 ≤ raw.toNat → raw.toNat < 2 ^ 48 →
      ∀ s : Nat, raw.toNat / 2 ^ s < 2 ^ 16 ↔ (selectShift raw).toNat ≤ s) ∧
    selectShift 0x10000000000 = 32 ∧ (quantizeRaw 0x10000000000).value = 0x100 ∧
    (window 0x10000000000 25).winValue = 0x8000

/-- SELECT_SHIFT is non-decreasing, so QUANTIZE's shift is in the duration, and below 2^48 so is the reconstructed count
(43_tick_quantizer R241, a property the spec derives). -/
def Obligations.ShiftIsMonotone : Prop :=
  (∀ a b : BitVec 64, a ≤ b → selectShift a ≤ selectShift b) ∧
    (∀ p : Params, TicksFnOk p.ticksFn → ∀ cal d₁ d₂, d₁ ≤ d₂ → (quantize p d₁ cal).shift ≤ (quantize p d₂ cal).shift) ∧
    ∀ a b : BitVec 64, a ≤ b → b.toNat < 2 ^ 48 →
      (quantizeRaw a).value.toNat * 2 ^ (quantizeRaw a).shift.toNat ≤
        (quantizeRaw b).value.toNat * 2 ^ (quantizeRaw b).shift.toNat

/-- A duration of 0 ms gives shift 1 and value 0 for any `TICKS_FN` that meets its constraints (43_tick_quantizer R235, a property
the spec derives). -/
def Obligations.ZeroDuration : Prop :=
  ∀ p : Params, TicksFnOk p.ticksFn → ∀ cal, (quantize p 0 cal).shift = 1 ∧ (quantize p 0 cal).value = 0

/-- WINDOW for shifts 0 to 32 and beyond (43_tick_quantizer R231). Beyond 32 a read of the value faults
(93 U2-a); the port itself holds a free value, which the statement leaves open (log 7). -/
def Obligations.WindowCases : Prop :=
  ∀ (raw : BitVec 64) (shiftIn : BitVec 6),
    (shiftIn.toNat ≤ 32 → (window raw shiftIn).winOk = 1 ∧
        (window raw shiftIn).winValue.toNat = raw.toNat / 2 ^ shiftIn.toNat % 2 ^ 16 ∧
        readWinValue (window raw shiftIn) = .ok (window raw shiftIn).winValue) ∧
      (33 ≤ shiftIn.toNat → (window raw shiftIn).winOk = 0 ∧
        readWinValue (window raw shiftIn) = .error .unspecifiedWinValue)

/-- QUANTIZE is TICKS_FN, SELECT_SHIFT and the window at the selected shift, the same logic that reads progress at a stored shift
(43_tick_quantizer R234, R242). -/
def Obligations.QuantizeFunction : Prop :=
  ∀ (p : Params) (durationMs cal : BitVec 32), let raw := p.ticksFn durationMs cal
    let q := quantize p durationMs cal
    q.rawTicks = raw ∧ q.shift = selectShift raw ∧ q.value.toNat = raw.toNat / 2 ^ q.shift.toNat % 2 ^ 16 ∧
      (window raw q.shift).winValue = q.value ∧ (window raw q.shift).winOk = 1 ∧
      (q.over48 = 1 ↔ 2 ^ 48 ≤ raw.toNat) ∧ (q.over48 = 0 ↔ raw.toNat < 2 ^ 48)

/-- A count of 2^48 or more gives shift 32, bits 47 to 32 and `over48`, never a saturated value (43_tick_quantizer R236, 90 C1). -/
def Obligations.CountsAbove48BitsWrap : Prop :=
  (∀ (p : Params) (durationMs cal : BitVec 32), 2 ^ 48 ≤ (p.ticksFn durationMs cal).toNat →
      (quantize p durationMs cal).shift = 32 ∧
        (quantize p durationMs cal).value.toNat = (p.ticksFn durationMs cal).toNat / 2 ^ 32 % 2 ^ 16 ∧
        (quantize p durationMs cal).over48 = 1) ∧
    (quantizeRaw 0x1000000000000).value = 0 ∧ (quantizeRaw 0x1234567890ABCDEF).value = 0x5678

/-- The default `TICKS_FN` and its calibration 0 (43_tick_quantizer R232, R244). The default is the spec's decision D16, log 9. -/
def Obligations.DefaultTicks : Prop :=
  (∀ durationMs cal : BitVec 32, (defaultTicksFn durationMs cal).toNat = durationMs.toNat * cal.toNat / 1000 ∧
      (defaultTicksFn durationMs cal).toNat < 2 ^ 55) ∧
    ∀ durationMs, quantize build durationMs 0 = { rawTicks := 0, shift := 1, value := 0, over48 := 0 }

/-- The default build meets every constraint the spec puts on its parameters, and its peripheral regions are disjoint (00_scope R7,
43_tick_quantizer R232, 44_state_decoder R261, R265, 42_render R210). -/
def Obligations.DefaultBuildMeetsConstraints : Prop :=
  ParamsValid build ∧ RegionsDisjoint build.periphBase

/-- The ESP-IDF `TICKS_FN` of 93 G7 (0 ticks at `cal = 0`, log 12) and the model's own tables for windows at bits 12 and 11 (log 11) meet
the constraints (43_tick_quantizer R232, 44_state_decoder R261). -/
def Obligations.AlternativeParametersMeetConstraints : Prop :=
  TicksFnOk espidfTicksFn ∧
    (∀ durationMs cal : BitVec 32, (espidfTicksFn durationMs cal).toNat = durationMs.toNat * 1000 * 2 ^ 19 / cal.toNat) ∧
    StatusTableOk 12 statusTable12 ∧ StatusTableOk 11 statusTable11

/-! ## U3, the power-state decoder, and byte images -/

/-- DECODE_STATE on the 4-bit window, for any table and window position (44_state_decoder R260, R262, 10_state R35). -/
def Obligations.DecodeStateFunction : Prop :=
  ∀ (p : Params) (status : Word), let v := BitVec.ofNat 4 (status.toNat / 2 ^ p.statusWindowLsb % 16)
    (p.statusTable v = some .idle → decodeState p status = { state := 0, diagValid := 0, diagPattern := 0 }) ∧
      (p.statusTable v = some .running → decodeState p status = { state := 1, diagValid := 0, diagPattern := 0 }) ∧
      (p.statusTable v = some .halted → decodeState p status = { state := 2, diagValid := 0, diagPattern := 0 }) ∧
      (p.statusTable v = some .sleeping → decodeState p status = { state := 3, diagValid := 0, diagPattern := 0 }) ∧
      (p.statusTable v = some .waking → decodeState p status = { state := 4, diagValid := 0, diagPattern := 0 }) ∧
      (p.statusTable v = some .done → decodeState p status = { state := 5, diagValid := 0, diagPattern := 0 }) ∧
      (p.statusTable v = none → decodeState p status =
        { state := 6, diagValid := 1, diagPattern := status &&& 0xF#32 <<< p.statusWindowLsb })

/-- Snapshots that agree on the mask decode equally (44_state_decoder R264, a property the spec derives). -/
def Obligations.BitsOutsideWindowIgnored : Prop :=
  ∀ p : Params, ParamsValid p → ∀ a b : Word,
    a &&& statusMask p.statusWindowLsb = b &&& statusMask p.statusWindowLsb → decodeState p a = decodeState p b

/-- The diagnostic is valid exactly for Unknown, and then gives the pattern back (10_state R34, 44_state_decoder R262). -/
def Obligations.DiagnosticNamesThePattern : Prop :=
  ∀ p : Params, ParamsValid p → ∀ status : Word,
    ((decodeState p status).diagValid = 1 ↔ (decodeState p status).state = 6) ∧
      ((decodeState p status).diagValid = 1 →
        (decodeState p status).diagPattern.toNat / 2 ^ p.statusWindowLsb =
          status.toNat / 2 ^ p.statusWindowLsb % 16) ∧
      (decodeState p status).state ≠ 7

/-- The source's three snapshots decode as it says under every table that meets the constraints (44_state_decoder R268, a property
the spec derives). -/
def Obligations.SourceStatusExamples : Prop :=
  ∀ p : Params, ParamsValid p →
    decodeState p 0x00006000 = { state := 1, diagValid := 0, diagPattern := 0 } ∧
      decodeState p 0x00000000 = { state := 0, diagValid := 0, diagPattern := 0 } ∧
      ∀ status : Word, status &&& statusMask p.statusWindowLsb = statusMask p.statusWindowLsb →
        decodeState p status = { state := 6, diagValid := 1, diagPattern := statusMask p.statusWindowLsb }

/-- The reference table, at the default build: eight documented patterns, and every other undocumented (44_state_decoder R265). The
Halted, Sleeping, Waking and Done rows are the spec's unverified choice (D22, log 9). -/
def Obligations.ReferenceTableRows : Prop :=
  (∀ v : BitVec 4, build.statusTable v =
      if v = 0b0000 then some .idle else if v = 0b0011 then some .running else if v = 0b1011 then some .halted
      else if v = 0b1001 then some .sleeping else if v = 0b0001 ∨ v = 0b0101 ∨ v = 0b0111 then some .waking
      else if v = 0b1000 then some .done else none) ∧
    decodeState build 0xFFFE1FFF = { state := 0, diagValid := 0, diagPattern := 0 } ∧
    decodeState build 0x00004000 = { state := 6, diagValid := 1, diagPattern := 0x00004000 }

/-- The caller forms words from 4 bytes, least significant first; an image of a program gives its words back, and only an image whose
length is a multiple of 4 gives words (20_memory R62, R63; D25, log 14). -/
def Obligations.ProgramImagesAreLittleEndian : Prop :=
  (∀ b0 b1 b2 b3 : Byte, (wordOfBytes b0 b1 b2 b3).toNat =
      b0.toNat + b1.toNat * 2 ^ 8 + b2.toNat * 2 ^ 16 + b3.toNat * 2 ^ 24) ∧
    (∀ ws : List Word, wordsOfImage (ws.flatMap bytesOfWord) = some ws) ∧
    ∀ bytes : List Byte, (∃ ws, wordsOfImage bytes = some ws) ↔ bytes.length % 4 = 0
end

