-- ==== Sys2Proof/Laws/Classify.lean ====
section
/-! SUPPORT. One lemma per row: the opcode, sub-opcode and selector that classify a word as that row (30_encoding R81 to
R83). -/

namespace Sys2Proof

theorem classify_wrReg {w : Word} (h1 : slice w 31 28 = 1) :
    classify w = .ok .wrReg := by
  simp [classify, h1]

theorem classify_rdReg {w : Word} (h1 : slice w 31 28 = 2) :
    classify w = .ok .rdReg := by
  simp [classify, h1]

theorem classify_i2cRw {w : Word} (h1 : slice w 31 28 = 3) :
    classify w = .ok .i2cRw := by
  simp [classify, h1]

theorem classify_delay {w : Word} (h1 : slice w 31 28 = 4) :
    classify w = .ok .delay := by
  simp [classify, h1]

theorem classify_adc {w : Word} (h1 : slice w 31 28 = 5) :
    classify w = .ok .adc := by
  simp [classify, h1]

theorem classify_st {w : Word} (h1 : slice w 31 28 = 6) (h2 : slice w 27 25 = 4) :
    classify w = .ok .st := by
  simp [classify, h1, h2]

theorem classify_addr {w : Word} (h1 : slice w 31 28 = 7) (h2 : slice w 27 25 = 0) (h3 : slice w 24 21 = 0) :
    classify w = .ok .addr := by
  simp [classify, classifyAlu, aluRegRow, h1, h2, h3]

theorem classify_subr {w : Word} (h1 : slice w 31 28 = 7) (h2 : slice w 27 25 = 0) (h3 : slice w 24 21 = 1) :
    classify w = .ok .subr := by
  simp [classify, classifyAlu, aluRegRow, h1, h2, h3]

theorem classify_andr {w : Word} (h1 : slice w 31 28 = 7) (h2 : slice w 27 25 = 0) (h3 : slice w 24 21 = 2) :
    classify w = .ok .andr := by
  simp [classify, classifyAlu, aluRegRow, h1, h2, h3]

theorem classify_orr {w : Word} (h1 : slice w 31 28 = 7) (h2 : slice w 27 25 = 0) (h3 : slice w 24 21 = 3) :
    classify w = .ok .orr := by
  simp [classify, classifyAlu, aluRegRow, h1, h2, h3]

theorem classify_movr {w : Word} (h1 : slice w 31 28 = 7) (h2 : slice w 27 25 = 0) (h3 : slice w 24 21 = 4) :
    classify w = .ok .movr := by
  simp [classify, classifyAlu, aluRegRow, h1, h2, h3]

theorem classify_lshr {w : Word} (h1 : slice w 31 28 = 7) (h2 : slice w 27 25 = 0) (h3 : slice w 24 21 = 5) :
    classify w = .ok .lshr := by
  simp [classify, classifyAlu, aluRegRow, h1, h2, h3]

theorem classify_rshr {w : Word} (h1 : slice w 31 28 = 7) (h2 : slice w 27 25 = 0) (h3 : slice w 24 21 = 6) :
    classify w = .ok .rshr := by
  simp [classify, classifyAlu, aluRegRow, h1, h2, h3]

theorem classify_addi {w : Word} (h1 : slice w 31 28 = 7) (h2 : slice w 27 25 = 1) (h3 : slice w 24 21 = 0) :
    classify w = .ok .addi := by
  simp [classify, classifyAlu, aluImmRow, h1, h2, h3]

theorem classify_subi {w : Word} (h1 : slice w 31 28 = 7) (h2 : slice w 27 25 = 1) (h3 : slice w 24 21 = 1) :
    classify w = .ok .subi := by
  simp [classify, classifyAlu, aluImmRow, h1, h2, h3]

theorem classify_andi {w : Word} (h1 : slice w 31 28 = 7) (h2 : slice w 27 25 = 1) (h3 : slice w 24 21 = 2) :
    classify w = .ok .andi := by
  simp [classify, classifyAlu, aluImmRow, h1, h2, h3]

theorem classify_ori {w : Word} (h1 : slice w 31 28 = 7) (h2 : slice w 27 25 = 1) (h3 : slice w 24 21 = 3) :
    classify w = .ok .ori := by
  simp [classify, classifyAlu, aluImmRow, h1, h2, h3]

theorem classify_movi {w : Word} (h1 : slice w 31 28 = 7) (h2 : slice w 27 25 = 1) (h3 : slice w 24 21 = 4) :
    classify w = .ok .movi := by
  simp [classify, classifyAlu, aluImmRow, h1, h2, h3]

theorem classify_lshi {w : Word} (h1 : slice w 31 28 = 7) (h2 : slice w 27 25 = 1) (h3 : slice w 24 21 = 5) :
    classify w = .ok .lshi := by
  simp [classify, classifyAlu, aluImmRow, h1, h2, h3]

theorem classify_rshi {w : Word} (h1 : slice w 31 28 = 7) (h2 : slice w 27 25 = 1) (h3 : slice w 24 21 = 6) :
    classify w = .ok .rshi := by
  simp [classify, classifyAlu, aluImmRow, h1, h2, h3]

theorem classify_stageInc {w : Word} (h1 : slice w 31 28 = 7) (h2 : slice w 27 25 = 2) (h3 : slice w 24 21 = 0) :
    classify w = .ok .stageInc := by
  simp [classify, classifyAlu, aluStageRow, h1, h2, h3]

theorem classify_stageDec {w : Word} (h1 : slice w 31 28 = 7) (h2 : slice w 27 25 = 2) (h3 : slice w 24 21 = 1) :
    classify w = .ok .stageDec := by
  simp [classify, classifyAlu, aluStageRow, h1, h2, h3]

theorem classify_stageRst {w : Word} (h1 : slice w 31 28 = 7) (h2 : slice w 27 25 = 2) (h3 : slice w 24 21 = 2) :
    classify w = .ok .stageRst := by
  simp [classify, classifyAlu, aluStageRow, h1, h2, h3]

theorem classify_bxr {w : Word} (h1 : slice w 31 28 = 8) (h2 : slice w 27 25 = 0) (h3 : slice w 24 22 = 0) (h4 : slice w 21 21 = 1) :
    classify w = .ok .bxr := by
  simp [classify, classifyBranch, bxRow, h1, h2, h3, h4]

theorem classify_bxi {w : Word} (h1 : slice w 31 28 = 8) (h2 : slice w 27 25 = 0) (h3 : slice w 24 22 = 0) (h4 : slice w 21 21 = 0) :
    classify w = .ok .bxi := by
  simp [classify, classifyBranch, bxRow, h1, h2, h3, h4]

theorem classify_bxzr {w : Word} (h1 : slice w 31 28 = 8) (h2 : slice w 27 25 = 0) (h3 : slice w 24 22 = 1) (h4 : slice w 21 21 = 1) :
    classify w = .ok .bxzr := by
  simp [classify, classifyBranch, bxRow, h1, h2, h3, h4]

theorem classify_bxzi {w : Word} (h1 : slice w 31 28 = 8) (h2 : slice w 27 25 = 0) (h3 : slice w 24 22 = 1) (h4 : slice w 21 21 = 0) :
    classify w = .ok .bxzi := by
  simp [classify, classifyBranch, bxRow, h1, h2, h3, h4]

theorem classify_bxfr {w : Word} (h1 : slice w 31 28 = 8) (h2 : slice w 27 25 = 0) (h3 : slice w 24 22 = 2) (h4 : slice w 21 21 = 1) :
    classify w = .ok .bxfr := by
  simp [classify, classifyBranch, bxRow, h1, h2, h3, h4]

theorem classify_bxfi {w : Word} (h1 : slice w 31 28 = 8) (h2 : slice w 27 25 = 0) (h3 : slice w 24 22 = 2) (h4 : slice w 21 21 = 0) :
    classify w = .ok .bxfi := by
  simp [classify, classifyBranch, bxRow, h1, h2, h3, h4]

theorem classify_bl {w : Word} (h1 : slice w 31 28 = 8) (h2 : slice w 27 25 = 1) (h3 : slice w 16 16 = 0) :
    classify w = .ok .bl := by
  simp [classify, classifyBranch, bRow, h1, h2, h3]

theorem classify_bge {w : Word} (h1 : slice w 31 28 = 8) (h2 : slice w 27 25 = 1) (h3 : slice w 16 16 = 1) :
    classify w = .ok .bge := by
  simp [classify, classifyBranch, bRow, h1, h2, h3]

theorem classify_jumpsLt {w : Word} (h1 : slice w 31 28 = 8) (h2 : slice w 27 25 = 2) (h3 : slice w 16 15 = 0) :
    classify w = .ok .jumpsLt := by
  simp [classify, classifyBranch, bsRow, h1, h2, h3]

theorem classify_jumpsGe {w : Word} (h1 : slice w 31 28 = 8) (h2 : slice w 27 25 = 2) (h3 : slice w 16 15 = 1) :
    classify w = .ok .jumpsGe := by
  simp [classify, classifyBranch, bsRow, h1, h2, h3]

theorem classify_jumpsLe {w : Word} (h1 : slice w 31 28 = 8) (h2 : slice w 27 25 = 2) (h3 : slice w 16 15 = 2) :
    classify w = .ok .jumpsLe := by
  simp [classify, classifyBranch, bsRow, h1, h2, h3]

theorem classify_wake {w : Word} (h1 : slice w 31 28 = 9) (h2 : slice w 27 25 = 0) :
    classify w = .ok .wake := by
  simp [classify, classifyEnd, h1, h2]

theorem classify_sleepCycleSel {w : Word} (h1 : slice w 31 28 = 9) (h2 : slice w 27 25 = 1) :
    classify w = .ok .sleepCycleSel := by
  simp [classify, classifyEnd, h1, h2]

theorem classify_tsens {w : Word} (h1 : slice w 31 28 = 10) :
    classify w = .ok .tsens := by
  simp [classify, h1]

theorem classify_halt {w : Word} (h1 : slice w 31 28 = 11) :
    classify w = .ok .halt := by
  simp [classify, h1]

theorem classify_ld {w : Word} (h1 : slice w 31 28 = 13) :
    classify w = .ok .ld := by
  simp [classify, h1]

theorem classify_label {w : Word} (h1 : slice w 31 28 = 15) (h2 : slice w 27 24 = 0) :
    classify w = .ok .label := by
  simp [classify, h1, h2]

end Sys2Proof
end

