-- ==== Sys2Proof/Laws/State.lean ====
section
/-! SUPPORT. One lemma per field per update of the state, so that no later proof unfolds a record update. -/

namespace Sys2Proof.Machine

@[simp] theorem State.setU1_ports (s : State) (o : U1Out) : (s.setU1 o).ports = s.ports := rfl
@[simp] theorem State.setU1_held (s : State) (o : U1Out) : (s.setU1 o).held = s.held := rfl
@[simp] theorem State.setU1_draws (s : State) (o : U1Out) : (s.setU1 o).draws = s.draws := rfl
@[simp] theorem State.setU1_u1 (s : State) (o : U1Out) : (s.setU1 o).out.u1 = o := rfl
@[simp] theorem State.setU1_listing (s : State) (o : U1Out) : (s.setU1 o).out.listing = s.out.listing := rfl
@[simp] theorem State.setU1_quantize (s : State) (o : U1Out) : (s.setU1 o).out.quantize = s.out.quantize := rfl
@[simp] theorem State.setU1_select (s : State) (o : U1Out) : (s.setU1 o).out.select = s.out.select := rfl
@[simp] theorem State.setU1_window (s : State) (o : U1Out) : (s.setU1 o).out.window = s.out.window := rfl
@[simp] theorem State.setU1_u3 (s : State) (o : U1Out) : (s.setU1 o).out.u3 = s.out.u3 := rfl

@[simp] theorem State.complete_ports (s : State) : s.complete.ports = callerInputs s.draws := rfl
@[simp] theorem State.complete_held (s : State) : s.complete.held = s.ports := rfl
@[simp] theorem State.complete_draws (s : State) : s.complete.draws = s.draws + 1 := rfl
@[simp] theorem State.complete_u1 (s : State) : s.complete.out.u1 = s.out.u1 := rfl
@[simp] theorem State.complete_listing (s : State) : s.complete.out.listing = listing build s.ports.program := rfl
@[simp] theorem State.complete_quantize (s : State) :
    s.complete.out.quantize = quantize build s.ports.durationMs s.ports.cal := rfl
@[simp] theorem State.complete_select (s : State) : s.complete.out.select = selectShift s.ports.selRaw := rfl
@[simp] theorem State.complete_window (s : State) :
    s.complete.out.window = window s.ports.winRaw s.ports.shiftIn := rfl
@[simp] theorem State.complete_u3 (s : State) : s.complete.out.u3 = decodeState build s.ports.status := rfl

@[simp] theorem State.withFetchWord_w (s : State) (nbits w : Nat) :
    (s.withFetchWord nbits w).ports.w = BitVec.ofNat 32 (w % 2 ^ nbits) := rfl
@[simp] theorem State.withFetchWord_out (s : State) (nbits w : Nat) : (s.withFetchWord nbits w).out = s.out := rfl
@[simp] theorem State.withFetchWord_held (s : State) (nbits w : Nat) : (s.withFetchWord nbits w).held = s.held := rfl
@[simp] theorem State.withFetchWord_draws (s : State) (nbits w : Nat) : (s.withFetchWord nbits w).draws = s.draws := rfl

@[simp] theorem u1Ok_ok (w : Word) (d : Decoded) (x : Text) : (u1Ok w d x).ok = 1 := rfl
@[simp] theorem u1Ok_reason (w : Word) (d : Decoded) (x : Text) : (u1Ok w d x).reason = 0 := rfl
@[simp] theorem u1Ok_variant (w : Word) (d : Decoded) (x : Text) : (u1Ok w d x).variant = variantTag d := rfl
@[simp] theorem u1Ok_fields (w : Word) (d : Decoded) (x : Text) : (u1Ok w d x).fields = d := rfl
@[simp] theorem u1Ok_slots (w : Word) (d : Decoded) (x : Text) : (u1Ok w d x).slots = slotsOf d := rfl
@[simp] theorem u1Ok_pseudo (w : Word) (d : Decoded) (x : Text) : (u1Ok w d x).pseudo = pseudoOf d := rfl
@[simp] theorem u1Ok_text (w : Word) (d : Decoded) (x : Text) : (u1Ok w d x).text = x := rfl
@[simp] theorem u1Fail_ok (w : Word) (r : Reason) : (u1Fail w r).ok = 0 := rfl
@[simp] theorem u1Fail_reason (w : Word) (r : Reason) : (u1Fail w r).reason = reasonCode r := rfl
@[simp] theorem u1Fail_text (w : Word) (r : Reason) : (u1Fail w r).text = fallback w := rfl

end Sys2Proof.Machine
end

