-- ==== Sys2Proof/Laws/Ops.lean ====
section
/-! SUPPORT. One spec lemma per shared operation: what a proof cites instead of unfolding the operation. -/

namespace Sys2Proof.Machine

/-- A selector a record has is the one U1 drives. -/
theorem u1Ok_selector {w : Word} {d : Decoded} {x : Text} {c : BitVec 3} (h : selectorOf d = some c) :
    (u1Ok w d x).selector = c := by simp [u1Ok, h]

/-- The addressing mode a record has is the one U1 drives. -/
theorem u1Ok_mode {w : Word} {d : Decoded} {x : Text} {m : BitVec 1} (h : modeOf d = some m) :
    (u1Ok w d x).mode = m := by simp [u1Ok, h]

/-- Everything a completed evaluation can be. -/
theorem completeOutcome_next {o : Host.Outcome State Fault Refusal} {t : State} (h : completeOutcome o = .next t) :
    ∃ u, o = .next u ∧ t = u.complete := by
  cases o with
  | next u => exact ⟨u, rfl, by simpa [completeOutcome] using h.symm⟩
  | fault r => simp [completeOutcome] at h
  | refused r => simp [completeOutcome] at h

/-- Every meaning drives U1 with the record and the rendering of its instruction, and does nothing else. -/
theorem exec_eq_driveOk (i : Instr) (s : State) :
    exec i s = .next (s.driveOk (record s.ports.w i) (template build.periphBase i)) := by
  cases i <;> rfl

/-- Everything a read of a U1 output can be. -/
theorem U1Out.whenOk_eq {α : Type} (o : U1Out) (value : α) :
    o.whenOk value = .ok value ∧ o.ok = 1 ∨ o.whenOk value = .error .unspecifiedU1Output ∧ o.ok ≠ 1 := by
  unfold U1Out.whenOk
  split <;> simp_all

/-- A read of a U1 output after a failure faults. -/
theorem U1Out.whenOk_fail {α : Type} (w : Word) (r : Reason) (value : α) :
    (u1Fail w r).whenOk value = .error .unspecifiedU1Output := rfl

/-- A read of a U1 output after a success gives the value on the port. -/
theorem U1Out.whenOk_ok {α : Type} (w : Word) (d : Decoded) (x : Text) (value : α) :
    (u1Ok w d x).whenOk value = .ok value := rfl

end Sys2Proof.Machine
end

