-- ==== Sys2Proof/Laws/Slice.lean ====
section
/-! SUPPORT. Bit slices: what a mask equation says about a slice, and the number a canonical word is. -/

namespace Sys2Proof

theorem slice_lt (w : Word) (hi lo : Nat) : slice w hi lo < 2 ^ (hi - lo + 1) := Nat.mod_lt _ (by positivity)

@[simp] theorem field_toNat (w : Word) (hi lo : Nat) : (field w hi lo).toNat = slice w hi lo := by
  rw [field, BitVec.toNat_ofNat, Nat.mod_eq_of_lt (slice_lt w hi lo)]

/-- A slice of a bitwise and is the and of the slices. -/
theorem slice_and (w m : Word) (hi lo : Nat) : slice (w &&& m) hi lo = slice w hi lo &&& slice m hi lo := by
  simp only [slice, BitVec.toNat_and, ← Nat.shiftRight_eq_div_pow, Nat.shiftRight_and_distrib,
    Nat.and_mod_two_pow]

/-- Where a mask is all ones, a masked word fixes the slice. -/
theorem slice_of_mask {w m k : Word} {hi lo : Nat} (h : w &&& m = k)
    (ones : slice m hi lo = 2 ^ (hi - lo + 1) - 1) : slice w hi lo = slice k hi lo := by
  rw [← h, slice_and, ones, Nat.and_two_pow_sub_one_eq_mod, Nat.mod_eq_of_lt (slice_lt w hi lo)]

/-- The number a canonical word is: the row's match and the placed fields, with no carry out of 32 bits. -/
theorem encode_toNat (i : Instr) : (encode i).toNat = (matchWord i.row).toNat + placedFields i := by
  rw [encode, BitVec.toNat_ofNat]
  refine Nat.mod_eq_of_lt ?_
  cases i <;> simp only [Instr.row, matchWord, placedFields, place, BitVec.reduceToNat] <;> omega

/-- A slice of a canonical word above all its fields is the slice of the row's match. -/
theorem slice_encode_above {i : Instr} {bound : Nat} (fields : placedFields i < bound) (row : Row) (hrow : i.row = row)
    (hi lo k : Nat) (room : (matchWord row).toNat % 2 ^ lo + bound ≤ 2 ^ lo) (hk : slice (matchWord row) hi lo = k) :
    slice (encode i) hi lo = k := by
  have pos : 0 < 2 ^ lo := by positivity
  have split := Nat.div_add_mod (matchWord row).toNat (2 ^ lo)
  have : (matchWord row).toNat + placedFields i =
      ((matchWord row).toNat % 2 ^ lo + placedFields i) + 2 ^ lo * ((matchWord row).toNat / 2 ^ lo) := by omega
  rw [← hk, slice, slice, encode_toNat, hrow, this, Nat.add_mul_div_left _ _ pos, Nat.div_eq_of_lt (by omega), Nat.zero_add]

/-- A slice of a number whose lower part stays below the slice and whose upper part stays above it. -/
theorem slice_between {w : Word} {hi lo low mid high : Nat} (hw : w.toNat = low + mid * 2 ^ lo + high * 2 ^ (hi + 1))
    (hlo : lo ≤ hi) (hlow : low < 2 ^ lo) (hmid : mid < 2 ^ (hi - lo + 1)) : slice w hi lo = mid := by
  have e : 2 ^ (hi + 1) = 2 ^ lo * 2 ^ (hi - lo + 1) := by rw [← pow_add]; congr 1; omega
  have pos : 0 < 2 ^ lo := by positivity
  rw [slice, hw, e, show low + mid * 2 ^ lo + high * (2 ^ lo * 2 ^ (hi - lo + 1)) =
    low + 2 ^ lo * (mid + 2 ^ (hi - lo + 1) * high) by ring, Nat.add_mul_div_left _ _ pos, Nat.div_eq_of_lt hlow,
    Nat.zero_add, Nat.add_mul_mod_self_left, Nat.mod_eq_of_lt hmid]

end Sys2Proof
end

