-- ==== Sys2Proof/Laws/PerInstr.lean ====
section
/-! SUPPORT. The per-instruction family ClassifyEncode: the canonical word of an instruction is classified as the
instruction's own row (40_decode_core R120 steps 1 to 3 on the words of 42_render R211). -/

namespace Sys2Proof.Laws.ClassifyEncode

/-- The row of the canonical word of `i` is the row of `i`. -/
def Statement (i : Instr) : Prop := classify (encode i) = .ok i.row

theorem wrReg (periph : BitVec 2) (addr : BitVec 8) (low high : BitVec 5) (data : BitVec 8) :
    Statement (.wrReg periph addr low high data) := by
  have fields : placedFields (.wrReg periph addr low high data) < 268435456 := by simp only [placedFields, place]; omega
  have h1 : slice (encode (.wrReg periph addr low high data)) 31 28 = 1 :=
    slice_encode_above fields .wrReg rfl 31 28 _ (by decide) (by decide)
  exact classify_wrReg h1

theorem rdReg (periph : BitVec 2) (addr : BitVec 8) (low high : BitVec 5) :
    Statement (.rdReg periph addr low high) := by
  have fields : placedFields (.rdReg periph addr low high) < 268435456 := by simp only [placedFields, place]; omega
  have h1 : slice (encode (.rdReg periph addr low high)) 31 28 = 2 :=
    slice_encode_above fields .rdReg rfl 31 28 _ (by decide) (by decide)
  exact classify_rdReg h1

theorem i2cRw (subaddr data : BitVec 8) (low high : BitVec 3) (sel : BitVec 4) (rw : BitVec 1) :
    Statement (.i2cRw subaddr data low high sel rw) := by
  have fields : placedFields (.i2cRw subaddr data low high sel rw) < 268435456 := by simp only [placedFields, place]; omega
  have h1 : slice (encode (.i2cRw subaddr data low high sel rw)) 31 28 = 3 :=
    slice_encode_above fields .i2cRw rfl 31 28 _ (by decide) (by decide)
  exact classify_i2cRw h1

theorem delay (cycles : BitVec 16) :
    Statement (.delay cycles) := by
  have fields : placedFields (.delay cycles) < 65536 := by simp only [placedFields, place]; omega
  have h1 : slice (encode (.delay cycles)) 31 28 = 4 :=
    slice_encode_above fields .delay rfl 31 28 _ (by decide) (by decide)
  exact classify_delay h1

theorem adc (dreg : BitVec 2) (sarSel : BitVec 1) (mux : BitVec 4) :
    Statement (.adc dreg sarSel mux) := by
  have fields : placedFields (.adc dreg sarSel mux) < 128 := by simp only [placedFields, place]; omega
  have h1 : slice (encode (.adc dreg sarSel mux)) 31 28 = 5 :=
    slice_encode_above fields .adc rfl 31 28 _ (by decide) (by decide)
  exact classify_adc h1

theorem st (dreg sreg : BitVec 2) (offset : BitVec 11) :
    Statement (.st dreg sreg offset) := by
  have fields : placedFields (.st dreg sreg offset) < 2097152 := by simp only [placedFields, place]; omega
  have h1 : slice (encode (.st dreg sreg offset)) 31 28 = 6 :=
    slice_encode_above fields .st rfl 31 28 _ (by decide) (by decide)
  have h2 : slice (encode (.st dreg sreg offset)) 27 25 = 4 :=
    slice_encode_above fields .st rfl 27 25 _ (by decide) (by decide)
  exact classify_st h1 h2

theorem addr (dreg sreg treg : BitVec 2) :
    Statement (.addr dreg sreg treg) := by
  have fields : placedFields (.addr dreg sreg treg) < 64 := by simp only [placedFields, place]; omega
  have h1 : slice (encode (.addr dreg sreg treg)) 31 28 = 7 :=
    slice_encode_above fields .addr rfl 31 28 _ (by decide) (by decide)
  have h2 : slice (encode (.addr dreg sreg treg)) 27 25 = 0 :=
    slice_encode_above fields .addr rfl 27 25 _ (by decide) (by decide)
  have h3 : slice (encode (.addr dreg sreg treg)) 24 21 = 0 :=
    slice_encode_above fields .addr rfl 24 21 _ (by decide) (by decide)
  exact classify_addr h1 h2 h3

theorem subr (dreg sreg treg : BitVec 2) :
    Statement (.subr dreg sreg treg) := by
  have fields : placedFields (.subr dreg sreg treg) < 64 := by simp only [placedFields, place]; omega
  have h1 : slice (encode (.subr dreg sreg treg)) 31 28 = 7 :=
    slice_encode_above fields .subr rfl 31 28 _ (by decide) (by decide)
  have h2 : slice (encode (.subr dreg sreg treg)) 27 25 = 0 :=
    slice_encode_above fields .subr rfl 27 25 _ (by decide) (by decide)
  have h3 : slice (encode (.subr dreg sreg treg)) 24 21 = 1 :=
    slice_encode_above fields .subr rfl 24 21 _ (by decide) (by decide)
  exact classify_subr h1 h2 h3

theorem andr (dreg sreg treg : BitVec 2) :
    Statement (.andr dreg sreg treg) := by
  have fields : placedFields (.andr dreg sreg treg) < 64 := by simp only [placedFields, place]; omega
  have h1 : slice (encode (.andr dreg sreg treg)) 31 28 = 7 :=
    slice_encode_above fields .andr rfl 31 28 _ (by decide) (by decide)
  have h2 : slice (encode (.andr dreg sreg treg)) 27 25 = 0 :=
    slice_encode_above fields .andr rfl 27 25 _ (by decide) (by decide)
  have h3 : slice (encode (.andr dreg sreg treg)) 24 21 = 2 :=
    slice_encode_above fields .andr rfl 24 21 _ (by decide) (by decide)
  exact classify_andr h1 h2 h3

theorem orr (dreg sreg treg : BitVec 2) :
    Statement (.orr dreg sreg treg) := by
  have fields : placedFields (.orr dreg sreg treg) < 64 := by simp only [placedFields, place]; omega
  have h1 : slice (encode (.orr dreg sreg treg)) 31 28 = 7 :=
    slice_encode_above fields .orr rfl 31 28 _ (by decide) (by decide)
  have h2 : slice (encode (.orr dreg sreg treg)) 27 25 = 0 :=
    slice_encode_above fields .orr rfl 27 25 _ (by decide) (by decide)
  have h3 : slice (encode (.orr dreg sreg treg)) 24 21 = 3 :=
    slice_encode_above fields .orr rfl 24 21 _ (by decide) (by decide)
  exact classify_orr h1 h2 h3

theorem movr (dreg sreg treg : BitVec 2) :
    Statement (.movr dreg sreg treg) := by
  have fields : placedFields (.movr dreg sreg treg) < 64 := by simp only [placedFields, place]; omega
  have h1 : slice (encode (.movr dreg sreg treg)) 31 28 = 7 :=
    slice_encode_above fields .movr rfl 31 28 _ (by decide) (by decide)
  have h2 : slice (encode (.movr dreg sreg treg)) 27 25 = 0 :=
    slice_encode_above fields .movr rfl 27 25 _ (by decide) (by decide)
  have h3 : slice (encode (.movr dreg sreg treg)) 24 21 = 4 :=
    slice_encode_above fields .movr rfl 24 21 _ (by decide) (by decide)
  exact classify_movr h1 h2 h3

theorem lshr (dreg sreg treg : BitVec 2) :
    Statement (.lshr dreg sreg treg) := by
  have fields : placedFields (.lshr dreg sreg treg) < 64 := by simp only [placedFields, place]; omega
  have h1 : slice (encode (.lshr dreg sreg treg)) 31 28 = 7 :=
    slice_encode_above fields .lshr rfl 31 28 _ (by decide) (by decide)
  have h2 : slice (encode (.lshr dreg sreg treg)) 27 25 = 0 :=
    slice_encode_above fields .lshr rfl 27 25 _ (by decide) (by decide)
  have h3 : slice (encode (.lshr dreg sreg treg)) 24 21 = 5 :=
    slice_encode_above fields .lshr rfl 24 21 _ (by decide) (by decide)
  exact classify_lshr h1 h2 h3

theorem rshr (dreg sreg treg : BitVec 2) :
    Statement (.rshr dreg sreg treg) := by
  have fields : placedFields (.rshr dreg sreg treg) < 64 := by simp only [placedFields, place]; omega
  have h1 : slice (encode (.rshr dreg sreg treg)) 31 28 = 7 :=
    slice_encode_above fields .rshr rfl 31 28 _ (by decide) (by decide)
  have h2 : slice (encode (.rshr dreg sreg treg)) 27 25 = 0 :=
    slice_encode_above fields .rshr rfl 27 25 _ (by decide) (by decide)
  have h3 : slice (encode (.rshr dreg sreg treg)) 24 21 = 6 :=
    slice_encode_above fields .rshr rfl 24 21 _ (by decide) (by decide)
  exact classify_rshr h1 h2 h3

theorem addi (dreg sreg : BitVec 2) (imm : BitVec 16) :
    Statement (.addi dreg sreg imm) := by
  have fields : placedFields (.addi dreg sreg imm) < 1048576 := by simp only [placedFields, place]; omega
  have h1 : slice (encode (.addi dreg sreg imm)) 31 28 = 7 :=
    slice_encode_above fields .addi rfl 31 28 _ (by decide) (by decide)
  have h2 : slice (encode (.addi dreg sreg imm)) 27 25 = 1 :=
    slice_encode_above fields .addi rfl 27 25 _ (by decide) (by decide)
  have h3 : slice (encode (.addi dreg sreg imm)) 24 21 = 0 :=
    slice_encode_above fields .addi rfl 24 21 _ (by decide) (by decide)
  exact classify_addi h1 h2 h3

theorem subi (dreg sreg : BitVec 2) (imm : BitVec 16) :
    Statement (.subi dreg sreg imm) := by
  have fields : placedFields (.subi dreg sreg imm) < 1048576 := by simp only [placedFields, place]; omega
  have h1 : slice (encode (.subi dreg sreg imm)) 31 28 = 7 :=
    slice_encode_above fields .subi rfl 31 28 _ (by decide) (by decide)
  have h2 : slice (encode (.subi dreg sreg imm)) 27 25 = 1 :=
    slice_encode_above fields .subi rfl 27 25 _ (by decide) (by decide)
  have h3 : slice (encode (.subi dreg sreg imm)) 24 21 = 1 :=
    slice_encode_above fields .subi rfl 24 21 _ (by decide) (by decide)
  exact classify_subi h1 h2 h3

theorem andi (dreg sreg : BitVec 2) (imm : BitVec 16) :
    Statement (.andi dreg sreg imm) := by
  have fields : placedFields (.andi dreg sreg imm) < 1048576 := by simp only [placedFields, place]; omega
  have h1 : slice (encode (.andi dreg sreg imm)) 31 28 = 7 :=
    slice_encode_above fields .andi rfl 31 28 _ (by decide) (by decide)
  have h2 : slice (encode (.andi dreg sreg imm)) 27 25 = 1 :=
    slice_encode_above fields .andi rfl 27 25 _ (by decide) (by decide)
  have h3 : slice (encode (.andi dreg sreg imm)) 24 21 = 2 :=
    slice_encode_above fields .andi rfl 24 21 _ (by decide) (by decide)
  exact classify_andi h1 h2 h3

theorem ori (dreg sreg : BitVec 2) (imm : BitVec 16) :
    Statement (.ori dreg sreg imm) := by
  have fields : placedFields (.ori dreg sreg imm) < 1048576 := by simp only [placedFields, place]; omega
  have h1 : slice (encode (.ori dreg sreg imm)) 31 28 = 7 :=
    slice_encode_above fields .ori rfl 31 28 _ (by decide) (by decide)
  have h2 : slice (encode (.ori dreg sreg imm)) 27 25 = 1 :=
    slice_encode_above fields .ori rfl 27 25 _ (by decide) (by decide)
  have h3 : slice (encode (.ori dreg sreg imm)) 24 21 = 3 :=
    slice_encode_above fields .ori rfl 24 21 _ (by decide) (by decide)
  exact classify_ori h1 h2 h3

theorem movi (dreg sreg : BitVec 2) (imm : BitVec 16) :
    Statement (.movi dreg sreg imm) := by
  have fields : placedFields (.movi dreg sreg imm) < 1048576 := by simp only [placedFields, place]; omega
  have h1 : slice (encode (.movi dreg sreg imm)) 31 28 = 7 :=
    slice_encode_above fields .movi rfl 31 28 _ (by decide) (by decide)
  have h2 : slice (encode (.movi dreg sreg imm)) 27 25 = 1 :=
    slice_encode_above fields .movi rfl 27 25 _ (by decide) (by decide)
  have h3 : slice (encode (.movi dreg sreg imm)) 24 21 = 4 :=
    slice_encode_above fields .movi rfl 24 21 _ (by decide) (by decide)
  exact classify_movi h1 h2 h3

theorem lshi (dreg sreg : BitVec 2) (imm : BitVec 16) :
    Statement (.lshi dreg sreg imm) := by
  have fields : placedFields (.lshi dreg sreg imm) < 1048576 := by simp only [placedFields, place]; omega
  have h1 : slice (encode (.lshi dreg sreg imm)) 31 28 = 7 :=
    slice_encode_above fields .lshi rfl 31 28 _ (by decide) (by decide)
  have h2 : slice (encode (.lshi dreg sreg imm)) 27 25 = 1 :=
    slice_encode_above fields .lshi rfl 27 25 _ (by decide) (by decide)
  have h3 : slice (encode (.lshi dreg sreg imm)) 24 21 = 5 :=
    slice_encode_above fields .lshi rfl 24 21 _ (by decide) (by decide)
  exact classify_lshi h1 h2 h3

theorem rshi (dreg sreg : BitVec 2) (imm : BitVec 16) :
    Statement (.rshi dreg sreg imm) := by
  have fields : placedFields (.rshi dreg sreg imm) < 1048576 := by simp only [placedFields, place]; omega
  have h1 : slice (encode (.rshi dreg sreg imm)) 31 28 = 7 :=
    slice_encode_above fields .rshi rfl 31 28 _ (by decide) (by decide)
  have h2 : slice (encode (.rshi dreg sreg imm)) 27 25 = 1 :=
    slice_encode_above fields .rshi rfl 27 25 _ (by decide) (by decide)
  have h3 : slice (encode (.rshi dreg sreg imm)) 24 21 = 6 :=
    slice_encode_above fields .rshi rfl 24 21 _ (by decide) (by decide)
  exact classify_rshi h1 h2 h3

theorem stageInc (imm : BitVec 8) :
    Statement (.stageInc imm) := by
  have fields : placedFields (.stageInc imm) < 4096 := by simp only [placedFields, place]; omega
  have h1 : slice (encode (.stageInc imm)) 31 28 = 7 :=
    slice_encode_above fields .stageInc rfl 31 28 _ (by decide) (by decide)
  have h2 : slice (encode (.stageInc imm)) 27 25 = 2 :=
    slice_encode_above fields .stageInc rfl 27 25 _ (by decide) (by decide)
  have h3 : slice (encode (.stageInc imm)) 24 21 = 0 :=
    slice_encode_above fields .stageInc rfl 24 21 _ (by decide) (by decide)
  exact classify_stageInc h1 h2 h3

theorem stageDec (imm : BitVec 8) :
    Statement (.stageDec imm) := by
  have fields : placedFields (.stageDec imm) < 4096 := by simp only [placedFields, place]; omega
  have h1 : slice (encode (.stageDec imm)) 31 28 = 7 :=
    slice_encode_above fields .stageDec rfl 31 28 _ (by decide) (by decide)
  have h2 : slice (encode (.stageDec imm)) 27 25 = 2 :=
    slice_encode_above fields .stageDec rfl 27 25 _ (by decide) (by decide)
  have h3 : slice (encode (.stageDec imm)) 24 21 = 1 :=
    slice_encode_above fields .stageDec rfl 24 21 _ (by decide) (by decide)
  exact classify_stageDec h1 h2 h3

theorem stageRst (imm : BitVec 8) :
    Statement (.stageRst imm) := by
  have fields : placedFields (.stageRst imm) < 4096 := by simp only [placedFields, place]; omega
  have h1 : slice (encode (.stageRst imm)) 31 28 = 7 :=
    slice_encode_above fields .stageRst rfl 31 28 _ (by decide) (by decide)
  have h2 : slice (encode (.stageRst imm)) 27 25 = 2 :=
    slice_encode_above fields .stageRst rfl 27 25 _ (by decide) (by decide)
  have h3 : slice (encode (.stageRst imm)) 24 21 = 2 :=
    slice_encode_above fields .stageRst rfl 24 21 _ (by decide) (by decide)
  exact classify_stageRst h1 h2 h3

theorem bxr (dreg : BitVec 2) (addr : BitVec 11) :
    Statement (.bxr dreg addr) := by
  have fields : placedFields (.bxr dreg addr) < 8192 := by simp only [placedFields, place]; omega
  have h1 : slice (encode (.bxr dreg addr)) 31 28 = 8 :=
    slice_encode_above fields .bxr rfl 31 28 _ (by decide) (by decide)
  have h2 : slice (encode (.bxr dreg addr)) 27 25 = 0 :=
    slice_encode_above fields .bxr rfl 27 25 _ (by decide) (by decide)
  have h3 : slice (encode (.bxr dreg addr)) 24 22 = 0 :=
    slice_encode_above fields .bxr rfl 24 22 _ (by decide) (by decide)
  have h4 : slice (encode (.bxr dreg addr)) 21 21 = 1 :=
    slice_encode_above fields .bxr rfl 21 21 _ (by decide) (by decide)
  exact classify_bxr h1 h2 h3 h4

theorem bxi (dreg : BitVec 2) (addr : BitVec 11) :
    Statement (.bxi dreg addr) := by
  have fields : placedFields (.bxi dreg addr) < 8192 := by simp only [placedFields, place]; omega
  have h1 : slice (encode (.bxi dreg addr)) 31 28 = 8 :=
    slice_encode_above fields .bxi rfl 31 28 _ (by decide) (by decide)
  have h2 : slice (encode (.bxi dreg addr)) 27 25 = 0 :=
    slice_encode_above fields .bxi rfl 27 25 _ (by decide) (by decide)
  have h3 : slice (encode (.bxi dreg addr)) 24 22 = 0 :=
    slice_encode_above fields .bxi rfl 24 22 _ (by decide) (by decide)
  have h4 : slice (encode (.bxi dreg addr)) 21 21 = 0 :=
    slice_encode_above fields .bxi rfl 21 21 _ (by decide) (by decide)
  exact classify_bxi h1 h2 h3 h4

theorem bxzr (dreg : BitVec 2) (addr : BitVec 11) :
    Statement (.bxzr dreg addr) := by
  have fields : placedFields (.bxzr dreg addr) < 8192 := by simp only [placedFields, place]; omega
  have h1 : slice (encode (.bxzr dreg addr)) 31 28 = 8 :=
    slice_encode_above fields .bxzr rfl 31 28 _ (by decide) (by decide)
  have h2 : slice (encode (.bxzr dreg addr)) 27 25 = 0 :=
    slice_encode_above fields .bxzr rfl 27 25 _ (by decide) (by decide)
  have h3 : slice (encode (.bxzr dreg addr)) 24 22 = 1 :=
    slice_encode_above fields .bxzr rfl 24 22 _ (by decide) (by decide)
  have h4 : slice (encode (.bxzr dreg addr)) 21 21 = 1 :=
    slice_encode_above fields .bxzr rfl 21 21 _ (by decide) (by decide)
  exact classify_bxzr h1 h2 h3 h4

theorem bxzi (dreg : BitVec 2) (addr : BitVec 11) :
    Statement (.bxzi dreg addr) := by
  have fields : placedFields (.bxzi dreg addr) < 8192 := by simp only [placedFields, place]; omega
  have h1 : slice (encode (.bxzi dreg addr)) 31 28 = 8 :=
    slice_encode_above fields .bxzi rfl 31 28 _ (by decide) (by decide)
  have h2 : slice (encode (.bxzi dreg addr)) 27 25 = 0 :=
    slice_encode_above fields .bxzi rfl 27 25 _ (by decide) (by decide)
  have h3 : slice (encode (.bxzi dreg addr)) 24 22 = 1 :=
    slice_encode_above fields .bxzi rfl 24 22 _ (by decide) (by decide)
  have h4 : slice (encode (.bxzi dreg addr)) 21 21 = 0 :=
    slice_encode_above fields .bxzi rfl 21 21 _ (by decide) (by decide)
  exact classify_bxzi h1 h2 h3 h4

theorem bxfr (dreg : BitVec 2) (addr : BitVec 11) :
    Statement (.bxfr dreg addr) := by
  have fields : placedFields (.bxfr dreg addr) < 8192 := by simp only [placedFields, place]; omega
  have h1 : slice (encode (.bxfr dreg addr)) 31 28 = 8 :=
    slice_encode_above fields .bxfr rfl 31 28 _ (by decide) (by decide)
  have h2 : slice (encode (.bxfr dreg addr)) 27 25 = 0 :=
    slice_encode_above fields .bxfr rfl 27 25 _ (by decide) (by decide)
  have h3 : slice (encode (.bxfr dreg addr)) 24 22 = 2 :=
    slice_encode_above fields .bxfr rfl 24 22 _ (by decide) (by decide)
  have h4 : slice (encode (.bxfr dreg addr)) 21 21 = 1 :=
    slice_encode_above fields .bxfr rfl 21 21 _ (by decide) (by decide)
  exact classify_bxfr h1 h2 h3 h4

theorem bxfi (dreg : BitVec 2) (addr : BitVec 11) :
    Statement (.bxfi dreg addr) := by
  have fields : placedFields (.bxfi dreg addr) < 8192 := by simp only [placedFields, place]; omega
  have h1 : slice (encode (.bxfi dreg addr)) 31 28 = 8 :=
    slice_encode_above fields .bxfi rfl 31 28 _ (by decide) (by decide)
  have h2 : slice (encode (.bxfi dreg addr)) 27 25 = 0 :=
    slice_encode_above fields .bxfi rfl 27 25 _ (by decide) (by decide)
  have h3 : slice (encode (.bxfi dreg addr)) 24 22 = 2 :=
    slice_encode_above fields .bxfi rfl 24 22 _ (by decide) (by decide)
  have h4 : slice (encode (.bxfi dreg addr)) 21 21 = 0 :=
    slice_encode_above fields .bxfi rfl 21 21 _ (by decide) (by decide)
  exact classify_bxfi h1 h2 h3 h4

theorem bl (mag : BitVec 7) (sign : BitVec 1) (imm : BitVec 16) :
    Statement (.bl mag sign imm) := by
  have fields : placedFields (.bl mag sign imm) < 33488896 := by simp only [placedFields, place]; omega
  have sum := encode_toNat (.bl mag sign imm)
  simp only [Instr.row, matchWord, placedFields, place, BitVec.reduceToNat] at sum
  have h1 : slice (encode (.bl mag sign imm)) 31 28 = 8 :=
    slice_encode_above fields .bl rfl 31 28 _ (by decide) (by decide)
  have h2 : slice (encode (.bl mag sign imm)) 27 25 = 1 :=
    slice_encode_above fields .bl rfl 27 25 _ (by decide) (by decide)
  have h3 : slice (encode (.bl mag sign imm)) 16 16 = 0 := by
    refine slice_between (low := imm.toNat) (mid := 0) (high := 16640 + mag.toNat + sign.toNat * 128) ?_
        (by decide) (by omega) (by decide)
    rw [sum]; omega
  exact classify_bl h1 h2 h3

theorem bge (mag : BitVec 7) (sign : BitVec 1) (imm : BitVec 16) :
    Statement (.bge mag sign imm) := by
  have fields : placedFields (.bge mag sign imm) < 33488896 := by simp only [placedFields, place]; omega
  have sum := encode_toNat (.bge mag sign imm)
  simp only [Instr.row, matchWord, placedFields, place, BitVec.reduceToNat] at sum
  have h1 : slice (encode (.bge mag sign imm)) 31 28 = 8 :=
    slice_encode_above fields .bge rfl 31 28 _ (by decide) (by decide)
  have h2 : slice (encode (.bge mag sign imm)) 27 25 = 1 :=
    slice_encode_above fields .bge rfl 27 25 _ (by decide) (by decide)
  have h3 : slice (encode (.bge mag sign imm)) 16 16 = 1 := by
    refine slice_between (low := imm.toNat) (mid := 1) (high := 16640 + mag.toNat + sign.toNat * 128) ?_
        (by decide) (by omega) (by decide)
    rw [sum]; omega
  exact classify_bge h1 h2 h3

theorem jumpsLt (mag : BitVec 7) (sign : BitVec 1) (imm : BitVec 8) :
    Statement (.jumpsLt mag sign imm) := by
  have fields : placedFields (.jumpsLt mag sign imm) < 33423616 := by simp only [placedFields, place]; omega
  have sum := encode_toNat (.jumpsLt mag sign imm)
  simp only [Instr.row, matchWord, placedFields, place, BitVec.reduceToNat] at sum
  have h1 : slice (encode (.jumpsLt mag sign imm)) 31 28 = 8 :=
    slice_encode_above fields .jumpsLt rfl 31 28 _ (by decide) (by decide)
  have h2 : slice (encode (.jumpsLt mag sign imm)) 27 25 = 2 :=
    slice_encode_above fields .jumpsLt rfl 27 25 _ (by decide) (by decide)
  have h3 : slice (encode (.jumpsLt mag sign imm)) 16 15 = 0 := by
    refine slice_between (low := imm.toNat) (mid := 0) (high := 16896 + mag.toNat + sign.toNat * 128) ?_
        (by decide) (by omega) (by decide)
    rw [sum]; omega
  exact classify_jumpsLt h1 h2 h3

theorem jumpsGe (mag : BitVec 7) (sign : BitVec 1) (imm : BitVec 8) :
    Statement (.jumpsGe mag sign imm) := by
  have fields : placedFields (.jumpsGe mag sign imm) < 33423616 := by simp only [placedFields, place]; omega
  have sum := encode_toNat (.jumpsGe mag sign imm)
  simp only [Instr.row, matchWord, placedFields, place, BitVec.reduceToNat] at sum
  have h1 : slice (encode (.jumpsGe mag sign imm)) 31 28 = 8 :=
    slice_encode_above fields .jumpsGe rfl 31 28 _ (by decide) (by decide)
  have h2 : slice (encode (.jumpsGe mag sign imm)) 27 25 = 2 :=
    slice_encode_above fields .jumpsGe rfl 27 25 _ (by decide) (by decide)
  have h3 : slice (encode (.jumpsGe mag sign imm)) 16 15 = 1 := by
    refine slice_between (low := imm.toNat) (mid := 1) (high := 16896 + mag.toNat + sign.toNat * 128) ?_
        (by decide) (by omega) (by decide)
    rw [sum]; omega
  exact classify_jumpsGe h1 h2 h3

theorem jumpsLe (mag : BitVec 7) (sign : BitVec 1) (imm : BitVec 8) :
    Statement (.jumpsLe mag sign imm) := by
  have fields : placedFields (.jumpsLe mag sign imm) < 33423616 := by simp only [placedFields, place]; omega
  have sum := encode_toNat (.jumpsLe mag sign imm)
  simp only [Instr.row, matchWord, placedFields, place, BitVec.reduceToNat] at sum
  have h1 : slice (encode (.jumpsLe mag sign imm)) 31 28 = 8 :=
    slice_encode_above fields .jumpsLe rfl 31 28 _ (by decide) (by decide)
  have h2 : slice (encode (.jumpsLe mag sign imm)) 27 25 = 2 :=
    slice_encode_above fields .jumpsLe rfl 27 25 _ (by decide) (by decide)
  have h3 : slice (encode (.jumpsLe mag sign imm)) 16 15 = 2 := by
    refine slice_between (low := imm.toNat) (mid := 2) (high := 16896 + mag.toNat + sign.toNat * 128) ?_
        (by decide) (by omega) (by decide)
    rw [sum]; omega
  exact classify_jumpsLe h1 h2 h3

theorem wake :
    Statement (.wake) := by
  have h1 : slice (encode (.wake)) 31 28 = 9 := by decide
  have h2 : slice (encode (.wake)) 27 25 = 0 := by decide
  exact classify_wake h1 h2

theorem sleepCycleSel (cycleSel : BitVec 4) :
    Statement (.sleepCycleSel cycleSel) := by
  have fields : placedFields (.sleepCycleSel cycleSel) < 16 := by simp only [placedFields, place]; omega
  have h1 : slice (encode (.sleepCycleSel cycleSel)) 31 28 = 9 :=
    slice_encode_above fields .sleepCycleSel rfl 31 28 _ (by decide) (by decide)
  have h2 : slice (encode (.sleepCycleSel cycleSel)) 27 25 = 1 :=
    slice_encode_above fields .sleepCycleSel rfl 27 25 _ (by decide) (by decide)
  exact classify_sleepCycleSel h1 h2

theorem tsens (dreg : BitVec 2) (waitDelay : BitVec 14) :
    Statement (.tsens dreg waitDelay) := by
  have fields : placedFields (.tsens dreg waitDelay) < 65536 := by simp only [placedFields, place]; omega
  have h1 : slice (encode (.tsens dreg waitDelay)) 31 28 = 10 :=
    slice_encode_above fields .tsens rfl 31 28 _ (by decide) (by decide)
  exact classify_tsens h1

theorem halt :
    Statement (.halt) := by
  have h1 : slice (encode (.halt)) 31 28 = 11 := by decide
  exact classify_halt h1

theorem ld (dreg sreg : BitVec 2) (offset : BitVec 11) :
    Statement (.ld dreg sreg offset) := by
  have fields : placedFields (.ld dreg sreg offset) < 2097152 := by simp only [placedFields, place]; omega
  have h1 : slice (encode (.ld dreg sreg offset)) 31 28 = 13 :=
    slice_encode_above fields .ld rfl 31 28 _ (by decide) (by decide)
  exact classify_ld h1

theorem label (id : BitVec 16) :
    Statement (.label id) := by
  have fields : placedFields (.label id) < 65536 := by simp only [placedFields, place]; omega
  have h1 : slice (encode (.label id)) 31 28 = 15 :=
    slice_encode_above fields .label rfl 31 28 _ (by decide) (by decide)
  have h2 : slice (encode (.label id)) 27 24 = 0 :=
    slice_encode_above fields .label rfl 27 24 _ (by decide) (by decide)
  exact classify_label h1 h2

end Sys2Proof.Laws.ClassifyEncode
end

