-- ==== Sys2Proof/Tests/Slice0.lean ====
section
/-! SUPPORT. Tests: what WellFormed refuses, decoding, rendering and single evaluations, with the expected results of
spec/95_test_vectors.md and the rules named; and for each statement with hypotheses a concrete case that meets them. -/

namespace Sys2Proof.Tests

open Sys2Proof.Machine Sys2Proof.Safety Sys2Proof.Claims

/-! ## Well-formed instructions (40_decode_core R126, 41_decode_alu_branch R179 to R184) -/

theorem test_wellFormed_refuses_adc_mux_0 : (Instr.adc 1 0 0).wellFormed = false := by decide
theorem test_wellFormed_refuses_bxr_addr : (Instr.bxr 2 5).wellFormed = false := by decide
theorem test_wellFormed_refuses_bxi_dreg : (Instr.bxi 1 5).wellFormed = false := by decide
theorem test_wellFormed_refuses_bxzr_addr : (Instr.bxzr 2 1).wellFormed = false := by decide
theorem test_wellFormed_refuses_bxzi_dreg : (Instr.bxzi 3 0).wellFormed = false := by decide
theorem test_wellFormed_refuses_bxfr_addr : (Instr.bxfr 0 2047).wellFormed = false := by decide
theorem test_wellFormed_refuses_bxfi_dreg : (Instr.bxfi 2 2047).wellFormed = false := by decide
theorem test_wellFormed_accepts_boundaries :
    (Instr.adc 3 1 15).wellFormed = true ∧ (Instr.adc 0 0 1).wellFormed = true ∧ (Instr.bxr 3 0).wellFormed = true ∧
    (Instr.bxi 0 2047).wellFormed = true ∧ (Instr.wrReg 3 255 31 0 255).wellFormed = true := by decide

/-! ## Decoding: words written out in 95_test_vectors, section 2.1 -/

/-- 95_test_vectors V1 to V6, strict policy. -/
theorem test_decode_peripheral :
    decode true 0x1383FC00 = .ok (.wrReg 0 0 0 7 255) ∧
    decode true 0x1FFC03FF = .ok (.wrReg 3 255 31 31 0) ∧
    decode true 0x14940D12 = .ok (.wrReg 1 18 5 9 3) ∧
    decode true 0x10000000 = .ok (.wrReg 0 0 0 0 0) ∧
    decode true 0x27800210 = .ok (.rdReg 2 16 0 15) ∧
    decode true 0x27800610 = .error .nonzeroUnused := by decide

/-- 95_test_vectors V1 to V6, the words that only the lenient policy accepts. -/
theorem test_decode_lenient_peripheral :
    decode false 0x27800610 = .ok (.rdReg 2 16 0 15) := by decide

/-- 95_test_vectors V7 to V13, strict policy. -/
theorem test_decode_i2c_and_delay :
    decode true 0x38785510 = .ok (.i2cRw 0x10 85 0 7 1 1) ∧
    decode true 0x30380002 = .ok (.i2cRw 0x2 0 0 7 0 0) ∧
    decode true 0x34000000 = .error .nonzeroUnused ∧
    decode true 0x40000000 = .ok (.delay 0) ∧
    decode true 0x400003E8 = .ok (.delay 1000) ∧
    decode true 0x4000FFFF = .ok (.delay 65535) ∧
    decode true 0x40010000 = .error .nonzeroUnused := by decide

/-- 95_test_vectors V7 to V13, the words that only the lenient policy accepts. -/
theorem test_decode_lenient_i2c_and_delay :
    decode false 0x34000000 = .ok (.i2cRw 0x0 0 0 0 0 0) ∧
    decode false 0x40010000 = .ok (.delay 0) := by decide

/-- 95_test_vectors V14 to V21, strict policy. -/
theorem test_decode_adc_and_tsens :
    decode true 0x50000005 = .ok (.adc 1 0 1) ∧
    decode true 0x5000007F = .ok (.adc 3 1 15) ∧
    decode true 0x50000001 = .error .badValue ∧
    decode true 0x50000105 = .error .nonzeroUnused ∧
    decode true 0x50000100 = .error .badValue ∧
    decode true 0xA0000FA1 = .ok (.tsens 1 1000) ∧
    decode true 0xA000FFFF = .ok (.tsens 3 16383) ∧
    decode true 0xA0010000 = .error .nonzeroUnused := by decide

/-- 95_test_vectors V14 to V21, the words that only the lenient policy accepts. -/
theorem test_decode_lenient_adc_and_tsens :
    decode false 0x50000105 = .ok (.adc 1 0 1) ∧
    decode false 0xA0010000 = .ok (.tsens 0 0) := by decide

/-- 95_test_vectors V22 to V30, strict policy. -/
theorem test_decode_load_and_store :
    decode true 0x68001409 = .ok (.st 1 2 5) ∧
    decode true 0x681FFC0C = .ok (.st 0 3 2047) ∧
    decode true 0x68000005 = .ok (.st 1 1 0) ∧
    decode true 0x60001409 = .error .badSubopcode ∧
    decode true 0x66000000 = .error .badSubopcode ∧
    decode true 0x68000010 = .error .nonzeroUnused ∧
    decode true 0xD0000004 = .ok (.ld 0 1 0) ∧
    decode true 0xD01FFC0F = .ok (.ld 3 3 2047) ∧
    decode true 0xD0200000 = .error .nonzeroUnused := by decide

/-- 95_test_vectors V22 to V30, the words that only the lenient policy accepts. -/
theorem test_decode_lenient_load_and_store :
    decode false 0x68000010 = .ok (.st 0 0 0) ∧
    decode false 0xD0200000 = .ok (.ld 0 0 0) := by decide

/-- 95_test_vectors V31 to V45, strict policy. -/
theorem test_decode_end_halt_and_label :
    decode true 0xB0000000 = .ok .halt ∧
    decode true 0xB0000001 = .error .nonzeroUnused ∧
    decode true 0x90000001 = .ok .wake ∧
    decode true 0x90000000 = .error .badValue ∧
    decode true 0x90000003 = .error .nonzeroUnused ∧
    decode true 0x92000000 = .ok (.sleepCycleSel 0) ∧
    decode true 0x92000004 = .ok (.sleepCycleSel 4) ∧
    decode true 0x9200000F = .ok (.sleepCycleSel 15) ∧
    decode true 0x92000010 = .error .nonzeroUnused ∧
    decode true 0x94000000 = .error .badSubopcode ∧
    decode true 0xF0000000 = .ok (.label 0) ∧
    decode true 0xF000FFFF = .ok (.label 65535) ∧
    decode true 0xF1000000 = .error .badSubopcode ∧
    decode true 0xF2000000 = .error .badSubopcode ∧
    decode true 0xF0010000 = .error .nonzeroUnused := by decide

/-- 95_test_vectors V31 to V45, the words that only the lenient policy accepts. -/
theorem test_decode_lenient_end_halt_and_label :
    decode false 0xB0000001 = .ok .halt ∧
    decode false 0x90000003 = .ok .wake ∧
    decode false 0x92000010 = .ok (.sleepCycleSel 0) ∧
    decode false 0xF0010000 = .ok (.label 0) := by decide

/-- 95_test_vectors V46 to V49, strict policy. -/
theorem test_decode_opcodes :
    decode true 0x00000000 = .error .badOpcode ∧
    decode true 0xC0000000 = .error .badOpcode ∧
    decode true 0xE0000000 = .error .badOpcode ∧
    decode true 0xFFFFFFFF = .error .badSubopcode := by decide

/-- 95_test_vectors V50 to V62, strict policy. -/
theorem test_decode_alu_reg :
    decode true 0x70000039 = .ok (.addr 1 2 3) ∧
    decode true 0x70200039 = .ok (.subr 1 2 3) ∧
    decode true 0x70400039 = .ok (.andr 1 2 3) ∧
    decode true 0x70600039 = .ok (.orr 1 2 3) ∧
    decode true 0x70800039 = .ok (.movr 1 2 3) ∧
    decode true 0x70A00039 = .ok (.lshr 1 2 3) ∧
    decode true 0x70C00039 = .ok (.rshr 1 2 3) ∧
    decode true 0x70000000 = .ok (.addr 0 0 0) ∧
    decode true 0x70E00000 = .error .badSelector ∧
    decode true 0x71E00000 = .error .badSelector ∧
    decode true 0x70E00040 = .error .badSelector ∧
    decode true 0x70000040 = .error .nonzeroUnused ∧
    decode true 0x76000000 = .error .badSubopcode := by decide

/-- 95_test_vectors V50 to V62, the words that only the lenient policy accepts. -/
theorem test_decode_lenient_alu_reg :
    decode false 0x70000040 = .ok (.addr 0 0 0) := by decide

/-- 95_test_vectors V63 to V73, strict policy. -/
theorem test_decode_alu_imm :
    decode true 0x720FFFF4 = .ok (.addi 0 1 65535) ∧
    decode true 0x722FFFF4 = .ok (.subi 0 1 65535) ∧
    decode true 0x724FFFF4 = .ok (.andi 0 1 65535) ∧
    decode true 0x726FFFF4 = .ok (.ori 0 1 65535) ∧
    decode true 0x728FFFF4 = .ok (.movi 0 1 65535) ∧
    decode true 0x72AFFFF4 = .ok (.lshi 0 1 65535) ∧
    decode true 0x72CFFFF4 = .ok (.rshi 0 1 65535) ∧
    decode true 0x728002A2 = .ok (.movi 2 0 42) ∧
    decode true 0x72A00100 = .ok (.lshi 0 0 16) ∧
    decode true 0x72E00000 = .error .badSelector ∧
    decode true 0x72100000 = .error .nonzeroUnused := by decide

/-- 95_test_vectors V63 to V73, the words that only the lenient policy accepts. -/
theorem test_decode_lenient_alu_imm :
    decode false 0x72100000 = .ok (.addi 0 0 0) := by decide

/-- 95_test_vectors V74 to V81, strict policy. -/
theorem test_decode_alu_stage :
    decode true 0x74000050 = .ok (.stageInc 5) ∧
    decode true 0x74200050 = .ok (.stageDec 5) ∧
    decode true 0x74400050 = .ok (.stageRst 5) ∧
    decode true 0x74400000 = .ok (.stageRst 0) ∧
    decode true 0x74000FF0 = .ok (.stageInc 255) ∧
    decode true 0x74600000 = .error .badSelector ∧
    decode true 0x74000001 = .error .nonzeroUnused ∧
    decode true 0x74001000 = .error .nonzeroUnused := by decide

/-- 95_test_vectors V74 to V81, the words that only the lenient policy accepts. -/
theorem test_decode_lenient_alu_stage :
    decode false 0x74000001 = .ok (.stageInc 0) ∧
    decode false 0x74001000 = .ok (.stageInc 0) := by decide

/-- 95_test_vectors V82 to V92, strict policy. -/
theorem test_decode_bx :
    decode true 0x80200002 = .ok (.bxr 2 0) ∧
    decode true 0x80001FFC = .ok (.bxi 0 0x7ff) ∧
    decode true 0x80000000 = .ok (.bxi 0 0x0) ∧
    decode true 0x80600002 = .ok (.bxzr 2 0) ∧
    decode true 0x80401FFC = .ok (.bxzi 0 0x7ff) ∧
    decode true 0x80A00002 = .ok (.bxfr 2 0) ∧
    decode true 0x80801FFC = .ok (.bxfi 0 0x7ff) ∧
    decode true 0x80C00000 = .error .badSelector ∧
    decode true 0x80200016 = .error .nonzeroUnused ∧
    decode true 0x80000015 = .error .nonzeroUnused ∧
    decode true 0x80002000 = .error .nonzeroUnused := by decide

/-- 95_test_vectors V82 to V92, the words that only the lenient policy accepts. -/
theorem test_decode_lenient_bx :
    decode false 0x80200016 = .ok (.bxr 2 5) ∧
    decode false 0x80000015 = .ok (.bxi 1 5) ∧
    decode false 0x80002000 = .ok (.bxi 0 0x0) := by decide

/-- 95_test_vectors V93 to V98, strict policy. -/
theorem test_decode_b :
    decode true 0x82060064 = .ok (.bl 3 0 100) ∧
    decode true 0x83070064 = .ok (.bge 3 1 100) ∧
    decode true 0x83000000 = .ok (.bl 0 1 0) ∧
    decode true 0x82000000 = .ok (.bl 0 0 0) ∧
    decode true 0x82FFFFFF = .ok (.bge 127 0 65535) ∧
    decode true 0x83FFFFFF = .ok (.bge 127 1 65535) := by decide

/-- 95_test_vectors V99 to V106, strict policy. -/
theorem test_decode_bs :
    decode true 0x8504000A = .ok (.jumpsLt 2 1 10) ∧
    decode true 0x8504800A = .ok (.jumpsGe 2 1 10) ∧
    decode true 0x8505000A = .ok (.jumpsLe 2 1 10) ∧
    decode true 0x84FE00FF = .ok (.jumpsLt 127 0 255) ∧
    decode true 0x85000000 = .ok (.jumpsLt 0 1 0) ∧
    decode true 0x84018000 = .error .badSelector ∧
    decode true 0x84000100 = .error .nonzeroUnused ∧
    decode true 0x86000000 = .error .badSubopcode := by decide

/-- 95_test_vectors V99 to V106, the words that only the lenient policy accepts. -/
theorem test_decode_lenient_bs :
    decode false 0x84000100 = .ok (.jumpsLt 0 0 0) := by decide

/-- 95_test_vectors S28 to S31: the first reason that applies, under both policies. -/
theorem test_decode_priority : ∀ strict : Bool,
    decode strict 0x70E00040 = .error .badSelector ∧ decode strict 0x50000100 = .error .badValue ∧
    decode strict 0x90000002 = .error .badValue ∧ decode strict 0x66000000 = .error .badSubopcode := by decide

/-- The host's table word: the bits above `nbits` are 0. -/
theorem test_decodeTableWord :
    decodeTableWord 32 0x27800210 = some (.rdReg 2 16 0 15) ∧ decodeTableWord 32 0xC0000000 = none := by decide

/-- Rows with unused bits see them in the all-ones word (30_encoding R84 to R101). -/
theorem test_unused_bits_set :
    ∀ row ∈ [Row.rdReg, .adc, .bxr, .bxi, .wake, .halt], hasUnused row 0xFFFFFFFF = true := by decide

/-- I_WR_REG, I_BL and I_BGE have no unused bit (30_encoding R84, R94). -/
theorem test_no_unused_bits : ∀ row ∈ [Row.wrReg, .bl, .bge], hasUnused row 0xFFFFFFFF = false := by decide

/-! ## Encoding: the vectors the other way -/

theorem test_encode_peripheral :
    encode (.wrReg 1 18 5 9 3) = 0x14940D12 ∧ encode (.rdReg 2 16 0 15) = 0x27800210 ∧
    encode (.i2cRw 16 85 0 7 1 1) = 0x38785510 ∧ encode (.adc 3 1 15) = 0x5000007F := by decide

theorem test_encode_alu_and_branch :
    encode (.rshr 1 2 3) = 0x70C00039 ∧ encode (.movi 2 0 42) = 0x728002A2 ∧ encode (.stageRst 5) = 0x74400050 ∧
    encode (.bxzi 0 2047) = 0x80401FFC ∧ encode (.bge 3 1 100) = 0x83070064 ∧
    encode (.jumpsLe 2 1 10) = 0x8505000A ∧ encode .wake = 0x90000001 := by decide

/-! ## Renderings, at the default build -/

/-- 95_test_vectors V1 to V6, the renderings of the accepted words. -/
theorem test_render_peripheral :
    render build 0x1383FC00 = "I_WR_REG(0x3ff48000, 0, 7, 255)".toList ∧
    render build 0x1FFC03FF = "I_WR_REG(0x3ff48ffc, 31, 31, 0)".toList ∧
    render build 0x14940D12 = "I_WR_REG(0x3ff48448, 5, 9, 3)".toList ∧
    render build 0x10000000 = "I_WR_REG(0x3ff48000, 0, 0, 0)".toList ∧
    render build 0x27800210 = "I_RD_REG(0x3ff48840, 0, 15)".toList := by decide

/-- 95_test_vectors V7 to V13, the renderings of the accepted words. -/
theorem test_render_i2c_and_delay :
    render build 0x38785510 = "I_I2C_RW(0x10, 85, 0, 7, 1, 1)".toList ∧
    render build 0x30380002 = "I_I2C_RW(0x2, 0, 0, 7, 0, 0)".toList ∧
    render build 0x40000000 = "I_DELAY(0)".toList ∧
    render build 0x400003E8 = "I_DELAY(1000)".toList ∧
    render build 0x4000FFFF = "I_DELAY(65535)".toList := by decide

/-- 95_test_vectors V14 to V21, the renderings of the accepted words. -/
theorem test_render_adc_and_tsens :
    render build 0x50000005 = "I_ADC(R1, 0, 0)".toList ∧
    render build 0x5000007F = "I_ADC(R3, 1, 14)".toList ∧
    render build 0xA0000FA1 = "I_TSENS(R1, 1000)".toList ∧
    render build 0xA000FFFF = "I_TSENS(R3, 16383)".toList := by decide

/-- 95_test_vectors V22 to V30, the renderings of the accepted words. -/
theorem test_render_load_and_store :
    render build 0x68001409 = "I_ST(R1, R2, 5)".toList ∧
    render build 0x681FFC0C = "I_ST(R0, R3, 2047)".toList ∧
    render build 0x68000005 = "I_ST(R1, R1, 0)".toList ∧
    render build 0xD0000004 = "I_LD(R0, R1, 0)".toList ∧
    render build 0xD01FFC0F = "I_LD(R3, R3, 2047)".toList := by decide

/-- 95_test_vectors V31 to V45, the renderings of the accepted words. -/
theorem test_render_end_halt_and_label :
    render build 0xB0000000 = "I_HALT()".toList ∧
    render build 0x90000001 = "I_WAKE()".toList ∧
    render build 0x92000000 = "I_SLEEP_CYCLE_SEL(0)".toList ∧
    render build 0x92000004 = "I_SLEEP_CYCLE_SEL(4)".toList ∧
    render build 0x9200000F = "I_SLEEP_CYCLE_SEL(15)".toList ∧
    render build 0xF0000000 = "M_LABEL(0)".toList ∧
    render build 0xF000FFFF = "M_LABEL(65535)".toList := by decide

/-- 95_test_vectors V50 to V62, the renderings of the accepted words. -/
theorem test_render_alu_reg :
    render build 0x70000039 = "I_ADDR(R1, R2, R3)".toList ∧
    render build 0x70200039 = "I_SUBR(R1, R2, R3)".toList ∧
    render build 0x70400039 = "I_ANDR(R1, R2, R3)".toList ∧
    render build 0x70600039 = "I_ORR(R1, R2, R3)".toList ∧
    render build 0x70800039 = "I_MOVR(R1, R2, R3)".toList ∧
    render build 0x70A00039 = "I_LSHR(R1, R2, R3)".toList ∧
    render build 0x70C00039 = "I_RSHR(R1, R2, R3)".toList ∧
    render build 0x70000000 = "I_ADDR(R0, R0, R0)".toList := by decide

/-- 95_test_vectors V63 to V73, the renderings of the accepted words. -/
theorem test_render_alu_imm :
    render build 0x720FFFF4 = "I_ADDI(R0, R1, 65535)".toList ∧
    render build 0x722FFFF4 = "I_SUBI(R0, R1, 65535)".toList ∧
    render build 0x724FFFF4 = "I_ANDI(R0, R1, 65535)".toList ∧
    render build 0x726FFFF4 = "I_ORI(R0, R1, 65535)".toList ∧
    render build 0x728FFFF4 = "I_MOVI(R0, R1, 65535)".toList ∧
    render build 0x72AFFFF4 = "I_LSHI(R0, R1, 65535)".toList ∧
    render build 0x72CFFFF4 = "I_RSHI(R0, R1, 65535)".toList ∧
    render build 0x728002A2 = "I_MOVI(R2, R0, 42)".toList ∧
    render build 0x72A00100 = "I_LSHI(R0, R0, 16)".toList := by decide

/-- 95_test_vectors V74 to V81, the renderings of the accepted words. -/
theorem test_render_alu_stage :
    render build 0x74000050 = "I_STAGE_INC(5)".toList ∧
    render build 0x74200050 = "I_STAGE_DEC(5)".toList ∧
    render build 0x74400050 = "I_STAGE_RST(5)".toList ∧
    render build 0x74400000 = "I_STAGE_RST(0)".toList ∧
    render build 0x74000FF0 = "I_STAGE_INC(255)".toList := by decide

/-- 95_test_vectors V82 to V92, the renderings of the accepted words. -/
theorem test_render_bx :
    render build 0x80200002 = "I_BXR(R2)".toList ∧
    render build 0x80001FFC = "I_BXI(0x7ff)".toList ∧
    render build 0x80000000 = "I_BXI(0x0)".toList ∧
    render build 0x80600002 = "I_BXZR(R2)".toList ∧
    render build 0x80401FFC = "I_BXZI(0x7ff)".toList ∧
    render build 0x80A00002 = "I_BXFR(R2)".toList ∧
    render build 0x80801FFC = "I_BXFI(0x7ff)".toList := by decide

/-- 95_test_vectors V93 to V98, the renderings of the accepted words. -/
theorem test_render_b :
    render build 0x82060064 = "I_BL(3, 100)".toList ∧
    render build 0x83070064 = "I_BGE(-3, 100)".toList ∧
    render build 0x83000000 = "I_BL(-0, 0)".toList ∧
    render build 0x82000000 = "I_BL(0, 0)".toList ∧
    render build 0x82FFFFFF = "I_BGE(127, 65535)".toList ∧
    render build 0x83FFFFFF = "I_BGE(-127, 65535)".toList := by decide

/-- 95_test_vectors V99 to V106, the renderings of the accepted words. -/
theorem test_render_bs :
    render build 0x8504000A = "I_JUMPS(-2, 10, JUMPS_LT)".toList ∧
    render build 0x8504800A = "I_JUMPS(-2, 10, JUMPS_GE)".toList ∧
    render build 0x8505000A = "I_JUMPS(-2, 10, JUMPS_LE)".toList ∧
    render build 0x84FE00FF = "I_JUMPS(127, 255, JUMPS_LT)".toList ∧
    render build 0x85000000 = "I_JUMPS(-0, 0, JUMPS_LT)".toList := by decide

/-- 42_render R208 and 95_test_vectors S20. -/
theorem test_render_fallback :
    render build 0xC0000000 = Char.ofNat 123 :: " .instruction = 0xc0000000 ".toList ++ [Char.ofNat 125] ∧
    render build 0x000000AB = Char.ofNat 123 :: " .instruction = 0x000000ab ".toList ++ [Char.ofNat 125] := by decide

/-- 95_test_vectors program A, its words 2 to 4: the loop of a counting loop. -/
theorem test_listing_program_A :
    listing build [0x70000005, 0x72200010, 0x83050001] =
      "I_ADDR(R1, R1, R0),\nI_SUBI(R0, R0, 1),\nI_BGE(-2, 1),\n".toList := by decide

/-- 95_test_vectors program B, strict policy, its words 0, 2 and 4: labels and failing words have their lines. -/
theorem test_listing_program_B :
    listing build [0xF0000001, 0x00000000, 0x70000040] =
      "M_LABEL(1),\n".toList ++ fallback 0x00000000 ++ ",\n".toList ++ fallback 0x70000040 ++ ",\n".toList := by decide

/-- 95_test_vectors program C. -/
theorem test_listing_program_C :
    listing build [0x1381F010, 0x17A24810, 0x92000000, 0x90000001, 0xB0000000] =
      ("I_WR_REG(0x3ff48040, 0, 7, 124),\nI_WR_REG(0x3ff48040, 8, 15, 146),\nI_SLEEP_CYCLE_SEL(0),\n" ++
        "I_WAKE(),\nI_HALT(),\n").toList := by decide

/-! ## One evaluation with a word on `w` -/

/-- Whether one evaluation of the block with this word on `w` puts a success with these values on U1's ports. -/
def drivesAfter (w : Nat) (tag : BitVec 5) (fields : Decoded) (slots pseudo : BitVec 1) : Bool :=
  match step (State.reset.withFetchWord 32 w) with
  | .next t =>
    t.out.u1.ok == 1 && t.out.u1.reason == 0 && t.out.u1.variant == tag && decide (t.out.u1.fields = fields) &&
      t.out.u1.slots == slots && t.out.u1.pseudo == pseudo
  | _ => false

/-- The `selector` and `mode` ports after the same evaluation. -/
def selectorAfter (w : Nat) : Option (BitVec 3 × BitVec 1) :=
  match step (State.reset.withFetchWord 32 w) with
  | .next t => some (t.out.u1.selector, t.out.u1.mode)
  | _ => none

/-- `ok`, `reason` and the text after the evaluation of a failing word. -/
def failureAfter (w : Nat) : Option (BitVec 1 × BitVec 3 × Text) :=
  match step (State.reset.withFetchWord 32 w) with
  | .next t => some (t.out.u1.ok, t.out.u1.reason, t.out.u1.text)
  | _ => none

/-- 95_test_vectors V3 to V5 and 40_decode_core R121. -/
theorem test_step_peripheral :
    drivesAfter 0x14940D12 0 (.wrReg 1 18 5 9 3) 1 0 = true ∧
    drivesAfter 0x27800210 1 (.rdReg 2 16 0 15) 1 0 = true := by decide

/-- 95_test_vectors V7 to V11 and 40_decode_core R121. -/
theorem test_step_i2c_and_delay :
    drivesAfter 0x38785510 2 (.i2cRw 0x10 85 0 7 1 1) 1 0 = true ∧
    drivesAfter 0x400003E8 3 (.delay 1000) 1 0 = true := by decide

/-- 95_test_vectors V15 to V19 and 40_decode_core R121. -/
theorem test_step_adc_and_tsens :
    drivesAfter 0x5000007F 4 (.adc 3 1 15) 1 0 = true ∧
    drivesAfter 0xA0000FA1 13 (.tsens 1 1000) 1 0 = true := by decide

/-- 95_test_vectors V22 to V29 and 40_decode_core R121. -/
theorem test_step_load_and_store :
    drivesAfter 0x68001409 5 (.st 1 2 5) 1 0 = true ∧
    drivesAfter 0xD01FFC0F 15 (.ld 3 3 2047) 1 0 = true := by decide

/-- 95_test_vectors V31 to V42 and 40_decode_core R121. -/
theorem test_step_end_halt_and_label :
    drivesAfter 0xB0000000 14 .halt 1 0 = true ∧
    drivesAfter 0x92000004 12 (.endProgram .sleep 4) 1 0 = true ∧
    drivesAfter 0xF000FFFF 16 (.label 65535) 0 1 = true := by decide

/-- 95_test_vectors V50 to V56 and 40_decode_core R121. -/
theorem test_step_alu_reg :
    drivesAfter 0x70000039 6 (.aluReg .add 1 2 3) 1 0 = true ∧
    drivesAfter 0x70200039 6 (.aluReg .sub 1 2 3) 1 0 = true ∧
    drivesAfter 0x70400039 6 (.aluReg .and 1 2 3) 1 0 = true ∧
    drivesAfter 0x70600039 6 (.aluReg .or 1 2 3) 1 0 = true ∧
    drivesAfter 0x70800039 6 (.aluReg .mov 1 2 3) 1 0 = true ∧
    drivesAfter 0x70A00039 6 (.aluReg .lsh 1 2 3) 1 0 = true ∧
    drivesAfter 0x70C00039 6 (.aluReg .rsh 1 2 3) 1 0 = true := by decide

/-- 95_test_vectors V63 to V69 and 40_decode_core R121. -/
theorem test_step_alu_imm :
    drivesAfter 0x720FFFF4 7 (.aluImm .add 0 1 65535) 1 0 = true ∧
    drivesAfter 0x722FFFF4 7 (.aluImm .sub 0 1 65535) 1 0 = true ∧
    drivesAfter 0x724FFFF4 7 (.aluImm .and 0 1 65535) 1 0 = true ∧
    drivesAfter 0x726FFFF4 7 (.aluImm .or 0 1 65535) 1 0 = true ∧
    drivesAfter 0x728FFFF4 7 (.aluImm .mov 0 1 65535) 1 0 = true ∧
    drivesAfter 0x72AFFFF4 7 (.aluImm .lsh 0 1 65535) 1 0 = true ∧
    drivesAfter 0x72CFFFF4 7 (.aluImm .rsh 0 1 65535) 1 0 = true := by decide

/-- 95_test_vectors V74 to V76 and 40_decode_core R121. -/
theorem test_step_alu_stage :
    drivesAfter 0x74000050 8 (.aluStage .inc 5) 1 0 = true ∧
    drivesAfter 0x74200050 8 (.aluStage .dec 5) 1 0 = true ∧
    drivesAfter 0x74400050 8 (.aluStage .rst 5) 1 0 = true := by decide

/-- 95_test_vectors V82 to V88 and 40_decode_core R121. -/
theorem test_step_bx :
    drivesAfter 0x80200002 9 (.bx .direct .reg 2 0) 1 0 = true ∧
    drivesAfter 0x80001FFC 9 (.bx .direct .imm 0 0x7ff) 1 0 = true ∧
    drivesAfter 0x80600002 9 (.bx .zero .reg 2 0) 1 0 = true ∧
    drivesAfter 0x80401FFC 9 (.bx .zero .imm 0 0x7ff) 1 0 = true ∧
    drivesAfter 0x80A00002 9 (.bx .ovf .reg 2 0) 1 0 = true ∧
    drivesAfter 0x80801FFC 9 (.bx .ovf .imm 0 0x7ff) 1 0 = true := by decide

/-- 95_test_vectors V93 to V94 and 40_decode_core R121. -/
theorem test_step_b :
    drivesAfter 0x82060064 10 (.b .l 3 0 100) 1 0 = true ∧
    drivesAfter 0x83070064 10 (.b .ge 3 1 100) 1 0 = true := by decide

/-- 95_test_vectors V99 to V101 and 40_decode_core R121. -/
theorem test_step_bs :
    drivesAfter 0x8504000A 11 (.bs .lt 2 1 10) 1 0 = true ∧
    drivesAfter 0x8504800A 11 (.bs .ge 2 1 10) 1 0 = true ∧
    drivesAfter 0x8505000A 11 (.bs .le 2 1 10) 1 0 = true := by decide

/-- I_WAKE's record leaves `cycle_sel` open (93 U1-b); its kind and ports are fixed (40_decode_core R131). -/
theorem test_step_wake :
    (match step (State.reset.withFetchWord 32 0x90000001) with
      | .next t => t.out.u1.ok == 1 && t.out.u1.variant == 12 && t.out.u1.selector == 0 && t.out.u1.text == "I_WAKE()".toList
      | _ => false) = true := by decide

/-- Selectors and the BX addressing on their ports (10_state R32). -/
theorem test_step_selectors :
    (selectorAfter 0x70C00039).map Prod.fst = some 6 ∧ (selectorAfter 0x728002A2).map Prod.fst = some 4 ∧
    (selectorAfter 0x74400050).map Prod.fst = some 2 ∧ selectorAfter 0x80600002 = some (1, 1) ∧
    selectorAfter 0x80801FFC = some (2, 0) ∧ (selectorAfter 0x83070064).map Prod.fst = some 1 ∧
    (selectorAfter 0x8505000A).map Prod.fst = some 2 ∧ (selectorAfter 0x92000004).map Prod.fst = some 1 := by decide

/-- One failing word for each reason: the evaluation completes (60_exceptions R280, R281; 95_test_vectors V46, V25, V58, V16,
V61). -/
theorem test_step_failures :
    (failureAfter 0x00000000).map (fun o => (o.1, o.2.1)) = some (0, 1) ∧
    (failureAfter 0x60001409).map (fun o => (o.1, o.2.1)) = some (0, 2) ∧
    (failureAfter 0x70E00000).map (fun o => (o.1, o.2.1)) = some (0, 3) ∧
    (failureAfter 0x50000001).map (fun o => (o.1, o.2.1)) = some (0, 4) ∧
    (failureAfter 0x70000040).map (fun o => (o.1, o.2.1)) = some (0, 5) ∧
    (failureAfter 0x70000040).map (fun o => o.2.2) =
      some (Char.ofNat 123 :: " .instruction = 0x70000040 ".toList ++ [Char.ofNat 125]) := by decide

/-- A read of a U1 output after a failure faults, whatever is on the port (10_state R31). -/
theorem test_read_after_failure : readVariant (u1Fail 0 .badOpcode) = .error .unspecifiedU1Output := by decide

/-- ST and LD both name a base register (20_memory R61 (c), 30_encoding R89); ST's `dreg` is its data, LD's its destination. -/
theorem test_base_registers :
    regRoles (.st 1 2 5) = [(.storeData, 1), (.base, 2)] ∧ regRoles (.ld 1 2 5) = [(.dest, 1), (.base, 2)] := by decide

/-! ## U2 (95_test_vectors, section 2.2) -/

/-- The SELECT_SHIFT and value table, and S1 to S5. -/
theorem test_quantize_raw_below_2_16 :
    quantizeRaw 0x0 = ⟨0x0, 1, 0x0000, 0⟩ ∧
    quantizeRaw 0x1 = ⟨0x1, 1, 0x0000, 0⟩ ∧
    quantizeRaw 0x2 = ⟨0x2, 1, 0x0001, 0⟩ ∧
    quantizeRaw 0x3 = ⟨0x3, 1, 0x0001, 0⟩ ∧
    quantizeRaw 0x7FFF = ⟨0x7FFF, 1, 0x3FFF, 0⟩ ∧
    quantizeRaw 0x8000 = ⟨0x8000, 1, 0x4000, 0⟩ ∧
    quantizeRaw 0xFFFF = ⟨0xFFFF, 1, 0x7FFF, 0⟩ ∧
    quantizeRaw 0x10000 = ⟨0x10000, 1, 0x8000, 0⟩ ∧
    quantizeRaw 0x1FFFF = ⟨0x1FFFF, 1, 0xFFFF, 0⟩ ∧
    quantizeRaw 0x20000 = ⟨0x20000, 2, 0x8000, 0⟩ := by decide

/-- The rest of that table, and S6 to S10. -/
theorem test_quantize_raw_above_2_16 :
    quantizeRaw 0x3FFFF = ⟨0x3FFFF, 2, 0xFFFF, 0⟩ ∧
    quantizeRaw 0x100000 = ⟨0x100000, 5, 0x8000, 0⟩ ∧
    quantizeRaw 0x123456 = ⟨0x123456, 5, 0x91A2, 0⟩ ∧
    quantizeRaw 0x1FFFFF = ⟨0x1FFFFF, 5, 0xFFFF, 0⟩ ∧
    quantizeRaw 0x80000000 = ⟨0x80000000, 16, 0x8000, 0⟩ ∧
    quantizeRaw 0xFFFFFFFF = ⟨0xFFFFFFFF, 16, 0xFFFF, 0⟩ ∧
    quantizeRaw 0x100000000 = ⟨0x100000000, 32, 0x0001, 0⟩ ∧
    quantizeRaw 0x1FFFFFFFF = ⟨0x1FFFFFFFF, 32, 0x0001, 0⟩ ∧
    quantizeRaw 0x10000000000 = ⟨0x10000000000, 32, 0x0100, 0⟩ ∧
    quantizeRaw 0x123456789AB = ⟨0x123456789AB, 32, 0x0123, 0⟩ ∧
    quantizeRaw 0x800000000000 = ⟨0x800000000000, 32, 0x8000, 0⟩ ∧
    quantizeRaw 0xFFFFFFFFFFFF = ⟨0xFFFFFFFFFFFF, 32, 0xFFFF, 0⟩ ∧
    quantizeRaw 0x1000000000000 = ⟨0x1000000000000, 32, 0x0000, 1⟩ ∧
    quantizeRaw 0x1234567890ABCDEF = ⟨0x1234567890ABCDEF, 32, 0x5678, 1⟩ := by decide

/-- The WINDOW table, and the progress reading of its notes. -/
theorem test_window :
    window 0x123456789AB 0 = ⟨0x89AB, 1⟩ ∧
    window 0x123456789AB 1 = ⟨0xC4D5, 1⟩ ∧
    window 0x123456789AB 16 = ⟨0x4567, 1⟩ ∧
    window 0x123456789AB 32 = ⟨0x0123, 1⟩ ∧
    window 0x1FFFF 0 = ⟨0xFFFF, 1⟩ ∧
    window 0x1FFFF 1 = ⟨0xFFFF, 1⟩ ∧
    window 0x1234567890ABCDEF 32 = ⟨0x5678, 1⟩ ∧
    window 0x0 32 = ⟨0x0000, 1⟩ ∧
    window 75000 2 = ⟨18750, 1⟩ := by decide

/-- The WINDOW table, shifts beyond 32: the value is open and its read faults. -/
theorem test_window_out_of_range :
    (window 0x123456789AB 33).winOk = 0 ∧
    (window 0x123456789AB 63).winOk = 0 ∧
    readWinValue (window 0x123456789AB 33) = .error .unspecifiedWinValue := by decide

/-- The QUANTIZE table at the default `TICKS_FN`, and S14. -/
theorem test_quantize_default_ticks :
    quantize build 0 150000 = ⟨0, 1, 0, 0⟩ ∧
    quantize build 0 0 = ⟨0, 1, 0, 0⟩ ∧
    quantize build 1 150000 = ⟨150, 1, 75, 0⟩ ∧
    quantize build 100 150000 = ⟨15000, 1, 7500, 0⟩ ∧
    quantize build 436 150000 = ⟨65400, 1, 32700, 0⟩ ∧
    quantize build 437 150000 = ⟨65550, 1, 32775, 0⟩ ∧
    quantize build 873 150000 = ⟨130950, 1, 65475, 0⟩ ∧
    quantize build 874 150000 = ⟨131100, 2, 32775, 0⟩ ∧
    quantize build 1000 150000 = ⟨150000, 2, 37500, 0⟩ ∧
    quantize build 60000 150000 = ⟨9000000, 8, 35156, 0⟩ ∧
    quantize build 3600000 150000 = ⟨540000000, 14, 32958, 0⟩ ∧
    quantize build 4294967295 150000 = ⟨644245094250, 32, 149, 0⟩ ∧
    quantize build 1000 0 = ⟨0, 1, 0, 0⟩ ∧
    quantize build 10 32768 = ⟨327, 1, 163, 0⟩ ∧
    quantize build 2000 32768 = ⟨65536, 1, 32768, 0⟩ ∧
    quantize build 1999 32768 = ⟨65503, 1, 32751, 0⟩ ∧
    quantize build 4294967295 4294967295 = ⟨18446744065119617, 32, 35127, 1⟩ ∧
    quantize build 7000 150000 = ⟨1050000, 5, 32812, 0⟩ := by decide

/-! ## U3 (95_test_vectors, section 2.3) -/

/-- The DECODE_STATE table, and S17 to S19, S22. -/
theorem test_decodeState :
    decodeState build 0x00000000 = ⟨0, 0, 0⟩ ∧
    decodeState build 0x00006000 = ⟨1, 0, 0⟩ ∧
    decodeState build 0x00016000 = ⟨2, 0, 0⟩ ∧
    decodeState build 0x00012000 = ⟨3, 0, 0⟩ ∧
    decodeState build 0x00002000 = ⟨4, 0, 0⟩ ∧
    decodeState build 0x0000A000 = ⟨4, 0, 0⟩ ∧
    decodeState build 0x0000E000 = ⟨4, 0, 0⟩ ∧
    decodeState build 0x00010000 = ⟨5, 0, 0⟩ ∧
    decodeState build 0x00004000 = ⟨6, 1, 0x00004000⟩ ∧
    decodeState build 0x00008000 = ⟨6, 1, 0x00008000⟩ ∧
    decodeState build 0x0000C000 = ⟨6, 1, 0x0000C000⟩ ∧
    decodeState build 0x00014000 = ⟨6, 1, 0x00014000⟩ ∧
    decodeState build 0x00018000 = ⟨6, 1, 0x00018000⟩ ∧
    decodeState build 0x0001A000 = ⟨6, 1, 0x0001A000⟩ ∧
    decodeState build 0x0001C000 = ⟨6, 1, 0x0001C000⟩ ∧
    decodeState build 0x0001E000 = ⟨6, 1, 0x0001E000⟩ ∧
    decodeState build 0xFFFFFFFF = ⟨6, 1, 0x0001E000⟩ ∧
    decodeState build 0x00006001 = ⟨1, 0, 0⟩ ∧
    decodeState build 0xFFFE1FFF = ⟨0, 0, 0⟩ ∧
    decodeState build 0x80006000 = ⟨1, 0, 0⟩ ∧
    decodeState build 0x00001FFF = ⟨0, 0, 0⟩ := by decide

/-! ## Byte images (20_memory R62) -/

theorem test_image_little_endian :
    wordOfBytes 0x10 0x02 0x80 0x27 = 0x27800210 ∧ bytesOfWord 0x27800210 = [0x10, 0x02, 0x80, 0x27] ∧
    wordsOfImage [0x01, 0x00, 0x00] = none := by decide

/-! ## Witnesses: for each statement with hypotheses, cases that meet them, at the ends of each clause's range

A statement named here is an obligation; `witness_<Name>` meets its hypotheses together. The obligations with no hypothesis
have none. -/

/-- A state whose word on `w` is the given one. -/
def withWord (w : Nat) : State := State.reset.withFetchWord 32 w

/-- Parameters that meet the constraints, for a window and a table. -/
def sampleParams (lsb : Nat) (table : BitVec 4 → Option DocState) : Params where
  unusedBitsStrict := true
  periphBase := defaultPeriphBase
  reservedMemSlots := 1
  ticksFn := fun _ _ => 1
  statusWindowLsb := lsb
  statusTable := table

theorem sampleTicks_ok : TicksFnOk (fun _ _ => 1) := ⟨fun _ _ _ _ => show (1 : BitVec 64) ≤ 1 by decide, fun _ => show (1 : BitVec 64) ≤ 1 by decide⟩

theorem sampleParams_valid_13 : ParamsValid (sampleParams 13 referenceStatusTable) :=
  ⟨by decide, sampleTicks_ok, by decide, by decide⟩

theorem sampleParams_valid_12 : ParamsValid (sampleParams 12 statusTable12) :=
  ⟨by decide, sampleTicks_ok, by decide, by decide⟩

theorem sampleParams_valid_11 : ParamsValid (sampleParams 11 statusTable11) :=
  ⟨by decide, sampleTicks_ok, by decide, by decide⟩

/-- Inputs with I_HALT's word on `w` and a period of 1000 ms. -/
def haltInputs : Inputs := { State.resetInputs with w := 0xB0000000, durationMs := 1000, cal := 150000 }

/-- A state whose outputs are the function of I_HALT's word. -/
def haltState : State := { State.reset with held := haltInputs, out := evaluate build haltInputs }

theorem haltState_legal : OutputsLegal haltState.out := by
  refine ⟨Or.inl ⟨by decide, by decide, by decide, ?_, ?_, by decide, by decide⟩, ?_, ?_, ?_⟩
  · intro c h
    exact absurd (show none = some c from h) (by simp)
  · intro m h
    exact absurd (show none = some m from h) (by simp)
  · exact ⟨by unfold ShiftLegal; decide, by decide, by decide⟩
  · unfold ShiftLegal; decide
  · unfold U3Legal; decide

/-- The ends of the `mux` range, and a BX row. -/
theorem witness_DecodeOfEncode :
    Instr.wellFormed (.adc 0 0 1) = true ∧ Instr.wellFormed (.adc 3 1 15) = true ∧ Instr.wellFormed (.bxi 0 2047) = true :=
  by decide

/-- One word decodes to I_HALT, another does not. -/
theorem witness_EncodeOfDecode :
    decode true 0x00000000 ≠ .ok .halt ∧ decode true 0xB0000000 = .ok .halt := by decide

/-- Accepted under each policy. -/
theorem witness_AcceptedWordsAreRowWords :
    decode true 0x20000000 = .ok (.rdReg 0 0 0 0) ∧ decode false 0x20000400 = .ok (.rdReg 0 0 0 0) := by decide

/-- A word that a row accepts, under each policy. -/
theorem witness_OpcodeTableRowsDisjoint :
    rowAccepts true .adc 0x50000004 = true ∧ rowAccepts false .adc 0x5FFFFFFF = true := by decide

/-- Opcodes 0, 12 and 14, with other bits 0 and 1. -/
theorem witness_UnassignedOpcodesFail :
    slice 0x00000000 31 28 = 0 ∧
    slice 0x0FFFFFFF 31 28 = 0 ∧
    slice 0xC0000000 31 28 = 12 ∧
    slice 0xCFFFFFFF 31 28 = 12 ∧
    slice 0xE0000000 31 28 = 14 ∧
    slice 0xEFFFFFFF 31 28 = 14 := by decide

/-- Words that meet the hypotheses of `RowRule`: the row's pattern and the word with every field bit 1 (strict), the word with
every other bit 1 (lenient), and the pattern with its lowest or its highest unused bit (the third clause). -/
abbrev Meets (pattern strict lenient strictMax lenientMax lowUnused highUnused : Word) : Prop :=
  pattern &&& strict = pattern ∧ strictMax &&& strict = pattern ∧ pattern &&& lenient = pattern ∧
    lenientMax &&& lenient = pattern ∧ (lowUnused &&& lenient = pattern ∧ lowUnused &&& strict ≠ pattern) ∧
    highUnused &&& lenient = pattern ∧ highUnused &&& strict ≠ pattern

/-- I_WR_REG, I_RD_REG. -/
theorem witness_PeripheralRows :
    Meets 0x20000000 0xF003FC00 0xF0000000 0x2FFC03FF 0x2FFFFFFF 0x20000400 0x20020000 ∧
    (0x10000000 &&& 0xF0000000 : Word) = 0x10000000 ∧ (0x1FFFFFFF &&& 0xF0000000 : Word) = 0x10000000 := by decide

/-- I_I2C_RW, I_DELAY. -/
theorem witness_I2cAndDelayRows :
    Meets 0x30000000 0xF4000000 0xF0000000 0x3BFFFFFF 0x3FFFFFFF 0x34000000 0x34000000 ∧
    Meets 0x40000000 0xFFFF0000 0xF0000000 0x4000FFFF 0x4FFFFFFF 0x40010000 0x48000000 := by decide

/-- I_ADC with `mux` 1 and 15 (strict, lenient, an unused bit) and with `mux` 0, and I_TSENS. -/
theorem witness_AdcAndTsensRows :
    (0x50000004 &&& 0xFFFFFF80 : Word) = 0x50000000 ∧ slice 0x50000004 5 2 ≠ 0 ∧
    (0x5000007F &&& 0xFFFFFF80 : Word) = 0x50000000 ∧ slice 0x5000007F 5 2 ≠ 0 ∧
    (0x50000004 &&& 0xF0000000 : Word) = 0x50000000 ∧ slice 0x50000004 5 2 ≠ 0 ∧
    (0x5FFFFFFF &&& 0xF0000000 : Word) = 0x50000000 ∧ slice 0x5FFFFFFF 5 2 ≠ 0 ∧
    (0x50000084 &&& 0xF0000000 : Word) = 0x50000000 ∧ slice 0x50000084 5 2 ≠ 0 ∧
    (0x50000084 &&& 0xFFFFFF80 : Word) ≠ 0x50000000 ∧
    (0x5800003C &&& 0xF0000000 : Word) = 0x50000000 ∧ slice 0x5800003C 5 2 ≠ 0 ∧
    (0x5800003C &&& 0xFFFFFF80 : Word) ≠ 0x50000000 ∧
    (0x50000000 &&& 0xF0000000 : Word) = 0x50000000 ∧ slice 0x50000000 5 2 = 0 ∧
    (0x5FFFFFC3 &&& 0xF0000000 : Word) = 0x50000000 ∧ slice 0x5FFFFFC3 5 2 = 0 ∧
    Meets 0xA0000000 0xFFFF0000 0xF0000000 0xA000FFFF 0xAFFFFFFF 0xA0010000 0xA8000000 := by decide

/-- I_ST, its sub-opcodes 0 and 7, and I_LD. -/
theorem witness_LoadAndStoreRows :
    Meets 0x68000000 0xFFE003F0 0xFE000000 0x681FFC0F 0x69FFFFFF 0x68000010 0x69000000 ∧
    slice 0x60000000 31 28 = 6 ∧ slice 0x60000000 27 25 ≠ 4 ∧
    slice 0x6FFFFFFF 31 28 = 6 ∧ slice 0x6FFFFFFF 27 25 ≠ 4 ∧
    Meets 0xD0000000 0xFFE003F0 0xF0000000 0xD01FFC0F 0xDFFFFFFF 0xD0000010 0xD8000000 := by decide

/-- I_HALT, I_WAKE, END with `w[0] = 0`, I_SLEEP_CYCLE_SEL, M_LABEL, and the other MACRO sub-opcodes. -/
theorem witness_EndHaltAndLabelRows :
    Meets 0xB0000000 0xFFFFFFFF 0xF0000000 0xB0000000 0xBFFFFFFF 0xB0000001 0xB8000000 ∧
    Meets 0x90000001 0xFFFFFFFF 0xFE000001 0x90000001 0x91FFFFFF 0x90000003 0x91000001 ∧
    slice 0x90000000 31 28 = 9 ∧ slice 0x90000000 27 25 = 0 ∧ slice 0x90000000 0 0 = 0 ∧
    slice 0x91FFFFFE 31 28 = 9 ∧ slice 0x91FFFFFE 27 25 = 0 ∧ slice 0x91FFFFFE 0 0 = 0 ∧
    Meets 0x92000000 0xFFFFFFF0 0xFE000000 0x9200000F 0x93FFFFFF 0x92000010 0x93000000 ∧
    Meets 0xF0000000 0xFFFF0000 0xFF000000 0xF000FFFF 0xF0FFFFFF 0xF0010000 0xF0800000 ∧
    slice 0xF1000000 31 28 = 15 ∧ slice 0xF1000000 27 24 ≠ 0 ∧
    slice 0xFFFFFFFF 31 28 = 15 ∧ slice 0xFFFFFFFF 27 24 ≠ 0 := by decide

/-- The seven ALU_REG rows. -/
theorem witness_AluRegRows :
    Meets 0x70000000 0xFFFFFFC0 0xFFE00000 0x7000003F 0x701FFFFF 0x70000040 0x70100000 ∧
    Meets 0x70200000 0xFFFFFFC0 0xFFE00000 0x7020003F 0x703FFFFF 0x70200040 0x70300000 ∧
    Meets 0x70400000 0xFFFFFFC0 0xFFE00000 0x7040003F 0x705FFFFF 0x70400040 0x70500000 ∧
    Meets 0x70600000 0xFFFFFFC0 0xFFE00000 0x7060003F 0x707FFFFF 0x70600040 0x70700000 ∧
    Meets 0x70800000 0xFFFFFFC0 0xFFE00000 0x7080003F 0x709FFFFF 0x70800040 0x70900000 ∧
    Meets 0x70A00000 0xFFFFFFC0 0xFFE00000 0x70A0003F 0x70BFFFFF 0x70A00040 0x70B00000 ∧
    Meets 0x70C00000 0xFFFFFFC0 0xFFE00000 0x70C0003F 0x70DFFFFF 0x70C00040 0x70D00000 := by decide

/-- The seven ALU_IMM rows. -/
theorem witness_AluImmRows :
    Meets 0x72000000 0xFFF00000 0xFFE00000 0x720FFFFF 0x721FFFFF 0x72100000 0x72100000 ∧
    Meets 0x72200000 0xFFF00000 0xFFE00000 0x722FFFFF 0x723FFFFF 0x72300000 0x72300000 ∧
    Meets 0x72400000 0xFFF00000 0xFFE00000 0x724FFFFF 0x725FFFFF 0x72500000 0x72500000 ∧
    Meets 0x72600000 0xFFF00000 0xFFE00000 0x726FFFFF 0x727FFFFF 0x72700000 0x72700000 ∧
    Meets 0x72800000 0xFFF00000 0xFFE00000 0x728FFFFF 0x729FFFFF 0x72900000 0x72900000 ∧
    Meets 0x72A00000 0xFFF00000 0xFFE00000 0x72AFFFFF 0x72BFFFFF 0x72B00000 0x72B00000 ∧
    Meets 0x72C00000 0xFFF00000 0xFFE00000 0x72CFFFFF 0x72DFFFFF 0x72D00000 0x72D00000 := by decide

/-- The three ALU_STAGE rows. -/
theorem witness_AluStageRows :
    Meets 0x74000000 0xFFFFF00F 0xFFE00000 0x74000FF0 0x741FFFFF 0x74000001 0x74100000 ∧
    Meets 0x74200000 0xFFFFF00F 0xFFE00000 0x74200FF0 0x743FFFFF 0x74200001 0x74300000 ∧
    Meets 0x74400000 0xFFFFF00F 0xFFE00000 0x74400FF0 0x745FFFFF 0x74400001 0x74500000 := by decide

/-- The six BX rows, and types 3 and 7. -/
theorem witness_BranchIndirectRows :
    Meets 0x80200000 0xFFFFFFFC 0xFFE00000 0x80200003 0x803FFFFF 0x80200004 0x80300000 ∧
    Meets 0x80000000 0xFFFFE003 0xFFE00000 0x80001FFC 0x801FFFFF 0x80000001 0x80100000 ∧
    Meets 0x80600000 0xFFFFFFFC 0xFFE00000 0x80600003 0x807FFFFF 0x80600004 0x80700000 ∧
    Meets 0x80400000 0xFFFFE003 0xFFE00000 0x80401FFC 0x805FFFFF 0x80400001 0x80500000 ∧
    Meets 0x80A00000 0xFFFFFFFC 0xFFE00000 0x80A00003 0x80BFFFFF 0x80A00004 0x80B00000 ∧
    Meets 0x80800000 0xFFFFE003 0xFFE00000 0x80801FFC 0x809FFFFF 0x80800001 0x80900000 ∧
    slice 0x80C00000 31 28 = 8 ∧ slice 0x80C00000 27 25 = 0 ∧ 3 ≤ slice 0x80C00000 24 22 ∧
    slice 0x81FFFFFF 31 28 = 8 ∧ slice 0x81FFFFFF 27 25 = 0 ∧ 3 ≤ slice 0x81FFFFFF 24 22 := by decide

/-- I_BL, I_BGE, and the sub-opcode 1 words. -/
theorem witness_BranchRelativeRows :
    (0x82000000 &&& 0xFE010000 : Word) = 0x82000000 ∧ (0x83FEFFFF &&& 0xFE010000 : Word) = 0x82000000 ∧
    (0x82010000 &&& 0xFE010000 : Word) = 0x82010000 ∧ (0x83FFFFFF &&& 0xFE010000 : Word) = 0x82010000 ∧
    slice 0x82000000 31 25 = 0b1000001 ∧ slice 0x83FFFFFF 31 25 = 0b1000001 := by decide

/-- The three BS rows, and cmp 3. -/
theorem witness_BranchRelativeMultiRows :
    Meets 0x84000000 0xFE01FF00 0xFE018000 0x85FE00FF 0x85FE7FFF 0x84000100 0x84004000 ∧
    Meets 0x84008000 0xFE01FF00 0xFE018000 0x85FE80FF 0x85FEFFFF 0x84008100 0x8400C000 ∧
    Meets 0x84010000 0xFE01FF00 0xFE018000 0x85FF00FF 0x85FF7FFF 0x84010100 0x84014000 ∧
    slice 0x84018000 31 28 = 8 ∧ slice 0x84018000 27 25 = 2 ∧ slice 0x84018000 16 15 = 3 ∧
    slice 0x85FFFFFF 31 28 = 8 ∧ slice 0x85FFFFFF 27 25 = 2 ∧ slice 0x85FFFFFF 16 15 = 3 := by decide

/-- I_HALT on `w`, and a next state of its meaning. -/
theorem witness_StepRunsDecodedInstruction :
    decode true (withWord 0xB0000000).ports.w = .ok .halt ∧
    exec .halt (withWord 0xB0000000) = .next ((withWord 0xB0000000).driveOk .halt haltText) := ⟨by decide, rfl⟩

/-- One failing word for each reason. -/
theorem witness_FailingWordDrivesFailure :
    decode true (withWord 0x00000000).ports.w = .error .badOpcode ∧
    decode true (withWord 0x60001409).ports.w = .error .badSubopcode ∧
    decode true (withWord 0x70E00000).ports.w = .error .badSelector ∧
    decode true (withWord 0x50000001).ports.w = .error .badValue ∧
    decode true (withWord 0x70000040).ports.w = .error .nonzeroUnused := by decide

/-- Two states that agree on every input and differ in what they held and put out before, and their next states. -/
theorem witness_UnitsDependOnTheirOwnInputsOnly :
    ∃ t₁ t₂, step haltState = .next t₁ ∧ step State.reset = .next t₂ ∧ haltState.ports = State.reset.ports ∧
      haltState.out.u1 ≠ State.reset.out.u1 :=
  ⟨_, _, rfl, rfl, rfl, fun h => absurd (congrArg U1Out.ok h) (by decide)⟩

theorem witness_StepKeepsInvariant : Inv haltState ∧ ∃ t, step haltState = .next t :=
  ⟨⟨haltState_legal, rfl⟩, _, rfl⟩

theorem witness_MeaningsKeepPortsLegal : OutputsLegal haltState.out := haltState_legal

theorem witness_BranchTargetReads :
    Instr.bxr 3 2047 ∈ [Instr.bxr 3 2047, .bxzr 3 2047, .bxfr 3 2047] ∧
    Instr.bxi 0 0 ∈ [Instr.bxi 0 0, .bxzi 0 0, .bxfi 0 0] := by decide

/-- A numeral that begins with the digit 0. -/
theorem witness_NumberForms :
    (dec 0).head? = some '0' ∧ (hex 0).tail.tail.head? = some '0' := by decide

/-- The smallest failing word, and the largest. -/
theorem witness_FallbackNamesItsWord :
    decode build.unusedBitsStrict 0x00000000 = .error .badOpcode ∧
    decode build.unusedBitsStrict 0xFFFFFFFF = .error .badSubopcode := by decide

/-- Parameters and two equal renderings; of a failing word too. -/
theorem witness_RenderingDeterminesWord :
    (sampleParams 13 referenceStatusTable).unusedBitsStrict = true ∧
    RegionsDisjoint (sampleParams 13 referenceStatusTable).periphBase ∧
    render (sampleParams 13 referenceStatusTable) 0x83000000 = "I_BL(-0, 0)".toList ∧
    render (sampleParams 13 referenceStatusTable) 0x82000000 ≠ "I_BL(-0, 0)".toList := by decide

/-- Parameters, and the listing of a program of one word. -/
theorem witness_ListingDeterminesProgram :
    (sampleParams 13 referenceStatusTable).unusedBitsStrict = true ∧
    RegionsDisjoint (sampleParams 13 referenceStatusTable).periphBase ∧
    listing (sampleParams 13 referenceStatusTable) [0xB0000000] = "I_HALT(),\n".toList := by decide

/-- A word with every unused bit 1. -/
theorem witness_LenientRenderingIgnoresUnusedBits :
    decode false 0xBFFFFFFF = .ok .halt ∧ (0xBFFFFFFF &&& ~~~unusedMask .halt : Word) = 0xB0000000 := by decide

/-- Bases that are multiples of 4. -/
theorem witness_PeripheralAddresses :
    ∀ i, (defaultPeriphBase i).toNat % 4 = 0 := by decide

/-- Counts with their highest bit at 0, 15, 16, 31, 32 and 63. -/
theorem witness_SelectShiftCases :
    2 ^ 0 ≤ (0x1 : BitVec 64).toNat ∧ (0x1 : BitVec 64).toNat < 2 ^ (0 + 1) ∧
    2 ^ 15 ≤ (0xFFFF : BitVec 64).toNat ∧ (0xFFFF : BitVec 64).toNat < 2 ^ (15 + 1) ∧
    2 ^ 16 ≤ (0x10000 : BitVec 64).toNat ∧ (0x10000 : BitVec 64).toNat < 2 ^ (16 + 1) ∧
    2 ^ 31 ≤ (0xFFFFFFFF : BitVec 64).toNat ∧ (0xFFFFFFFF : BitVec 64).toNat < 2 ^ (31 + 1) ∧
    2 ^ 32 ≤ (0x100000000 : BitVec 64).toNat ∧ (0x100000000 : BitVec 64).toNat < 2 ^ (32 + 1) ∧
    2 ^ 63 ≤ (0xFFFFFFFFFFFFFFFF : BitVec 64).toNat ∧ (0xFFFFFFFFFFFFFFFF : BitVec 64).toNat < 2 ^ (63 + 1) :=
  by decide

/-- The ends of the four ranges. -/
theorem witness_ShiftAndValueRanges :
    (0x0 : BitVec 64).toNat < 2 ^ 16 ∧
    (0xFFFF : BitVec 64).toNat < 2 ^ 16 ∧
    2 ^ 16 ≤ (0x10000 : BitVec 64).toNat ∧ (0x10000 : BitVec 64).toNat < 2 ^ 32 ∧
    2 ^ 16 ≤ (0xFFFFFFFF : BitVec 64).toNat ∧ (0xFFFFFFFF : BitVec 64).toNat < 2 ^ 32 ∧
    2 ^ 32 ≤ (0x100000000 : BitVec 64).toNat ∧ (0x100000000 : BitVec 64).toNat < 2 ^ 48 ∧
    2 ^ 32 ≤ (0xFFFFFFFFFFFF : BitVec 64).toNat ∧ (0xFFFFFFFFFFFF : BitVec 64).toNat < 2 ^ 48 ∧
    2 ^ 48 ≤ (0x1000000000000 : BitVec 64).toNat ∧
    2 ^ 48 ≤ (0xFFFFFFFFFFFFFFFF : BitVec 64).toNat := by decide

/-- A count of 2 with its bit at 1, and the largest count with its highest bit at 47. -/
theorem witness_MostSignificantBitKept :
    2 ^ 1 ≤ (2 : BitVec 64).toNat ∧ (2 : BitVec 64).toNat < 2 ^ (1 + 1) ∧ (2 : BitVec 64).toNat < 2 ^ 48 ∧
    2 ^ 47 ≤ (0xFFFFFFFFFFFF : BitVec 64).toNat ∧ (0xFFFFFFFFFFFF : BitVec 64).toNat < 2 ^ (47 + 1) := by decide

/-- The smallest and the largest count below 2^48. -/
theorem witness_ResolutionBound :
    (0 : BitVec 64).toNat < 2 ^ 48 ∧ (0xFFFFFFFFFFFF : BitVec 64).toNat < 2 ^ 48 := by decide

/-- The ends of the four ranges; in the third, the highest bit at 32 and at 46. -/
theorem witness_TightestWindow :
    (0x0 : BitVec 64).toNat < 2 ^ 16 ∧
    (0xFFFF : BitVec 64).toNat < 2 ^ 16 ∧
    2 ^ 16 ≤ (0x10000 : BitVec 64).toNat ∧ (0x10000 : BitVec 64).toNat < 2 ^ 32 ∧
    2 ^ 16 ≤ (0xFFFFFFFF : BitVec 64).toNat ∧ (0xFFFFFFFF : BitVec 64).toNat < 2 ^ 32 ∧
    2 ^ 32 ≤ (0x100000000 : BitVec 64).toNat ∧ (0x100000000 : BitVec 64).toNat < 2 ^ (32 + 1) ∧ 32 ≤ 32 ∧ 32 < 47 ∧
    2 ^ 46 ≤ (0x7FFFFFFFFFFF : BitVec 64).toNat ∧ (0x7FFFFFFFFFFF : BitVec 64).toNat < 2 ^ (46 + 1) ∧ 32 ≤ 46 ∧ 46 < 47 ∧
    2 ^ 47 ≤ (0x800000000000 : BitVec 64).toNat ∧ (0x800000000000 : BitVec 64).toNat < 2 ^ 48 ∧
    2 ^ 47 ≤ (0xFFFFFFFFFFFF : BitVec 64).toNat ∧ (0xFFFFFFFFFFFF : BitVec 64).toNat < 2 ^ 48 := by decide

/-- A valid `TICKS_FN`, ordered durations, and counts on the two sides of a shift change. -/
theorem witness_ShiftIsMonotone :
    TicksFnOk (sampleParams 13 referenceStatusTable).ticksFn ∧ (0 : BitVec 32) ≤ 0xFFFFFFFF ∧
    (0x1FFFF : BitVec 64) ≤ 0x20000 ∧ (0x20000 : BitVec 64).toNat < 2 ^ 48 :=
  ⟨sampleTicks_ok, by decide, by decide, by decide⟩

/-- A `TICKS_FN` at the limit of its constraint: 1 tick for 0 ms. -/
theorem witness_ZeroDuration :
    TicksFnOk (sampleParams 13 referenceStatusTable).ticksFn ∧ (sampleParams 13 referenceStatusTable).ticksFn 0 0 = 1 :=
  ⟨sampleTicks_ok, by decide⟩

/-- Shifts 0, 32, 33 and 63. -/
theorem witness_WindowCases :
    (0 : BitVec 6).toNat ≤ 32 ∧ (32 : BitVec 6).toNat ≤ 32 ∧ 33 ≤ (33 : BitVec 6).toNat ∧ 33 ≤ (63 : BitVec 6).toNat :=
  by decide

/-- A count of exactly 2^48, and the default build at the largest inputs. -/
theorem witness_CountsAbove48BitsWrap :
    2 ^ 48 ≤ (((fun _ _ => 0x1000000000000) : BitVec 32 → BitVec 32 → BitVec 64) 0 0).toNat ∧
    2 ^ 48 ≤ (build.ticksFn 0xFFFFFFFF 0xFFFFFFFF).toNat := by decide

/-- A snapshot for each state, Unknown at its smallest and its largest pattern. -/
theorem witness_DecodeStateFunction :
    build.statusTable (BitVec.ofNat 4 ((0x00000000 : Word).toNat / 2 ^ build.statusWindowLsb % 16)) = some .idle ∧
    build.statusTable (BitVec.ofNat 4 ((0x00006000 : Word).toNat / 2 ^ build.statusWindowLsb % 16)) = some .running ∧
    build.statusTable (BitVec.ofNat 4 ((0x00016000 : Word).toNat / 2 ^ build.statusWindowLsb % 16)) = some .halted ∧
    build.statusTable (BitVec.ofNat 4 ((0x00012000 : Word).toNat / 2 ^ build.statusWindowLsb % 16)) = some .sleeping ∧
    build.statusTable (BitVec.ofNat 4 ((0x00002000 : Word).toNat / 2 ^ build.statusWindowLsb % 16)) = some .waking ∧
    build.statusTable (BitVec.ofNat 4 ((0x0000E000 : Word).toNat / 2 ^ build.statusWindowLsb % 16)) = some .waking ∧
    build.statusTable (BitVec.ofNat 4 ((0x00010000 : Word).toNat / 2 ^ build.statusWindowLsb % 16)) = some .done ∧
    build.statusTable (BitVec.ofNat 4 ((0x00004000 : Word).toNat / 2 ^ build.statusWindowLsb % 16)) = none ∧
    build.statusTable (BitVec.ofNat 4 ((0xFFFFFFFF : Word).toNat / 2 ^ build.statusWindowLsb % 16)) = none :=
  by decide

/-- Parameters for each window, and snapshots that agree in the window at bit 13. -/
theorem witness_BitsOutsideWindowIgnored :
    ParamsValid (sampleParams 13 referenceStatusTable) ∧
    ParamsValid (sampleParams 12 statusTable12) ∧
    ParamsValid (sampleParams 11 statusTable11) ∧
    (0xFFFE7FFF : Word) &&& statusMask 13 = 0x00006000 &&& statusMask 13 :=
  ⟨sampleParams_valid_13, sampleParams_valid_12, sampleParams_valid_11, by decide⟩

/-- Parameters, and a snapshot whose diagnostic is valid. -/
theorem witness_DiagnosticNamesThePattern :
    ParamsValid (sampleParams 11 statusTable11) ∧
    (decodeState (sampleParams 11 statusTable11) 0xFFFFFFFF).diagValid = 1 := ⟨sampleParams_valid_11, by decide⟩

/-- Parameters, and snapshots with every window bit set. -/
theorem witness_SourceStatusExamples :
    ParamsValid (sampleParams 12 statusTable12) ∧ (0xFFFFFFFF : Word) &&& statusMask 12 = statusMask 12 ∧
    (0x0000F000 : Word) &&& statusMask 12 = statusMask 12 := ⟨sampleParams_valid_12, by decide, by decide⟩

end Sys2Proof.Tests
end

section
/-! The default build meets the spec's constraints on its parameters (00_scope R7). -/

namespace Sys2Proof.Proofs.Scope

open Sys2Proof.Machine

/-- Two 32-bit factors over 1000 stay far below 2^64, so the default count never wraps (43_tick_quantizer R232). -/
theorem defaultTicks_lt (durationMs cal : BitVec 32) : durationMs.toNat * cal.toNat / 1000 < 2 ^ 55 := by
  have product : durationMs.toNat * cal.toNat < 2 ^ 32 * 2 ^ 32 := Nat.mul_lt_mul'' durationMs.isLt cal.isLt
  omega

theorem defaultTicksFn_toNat (durationMs cal : BitVec 32) :
    (defaultTicksFn durationMs cal).toNat = durationMs.toNat * cal.toNat / 1000 := by
  have bound := defaultTicks_lt durationMs cal
  rw [defaultTicksFn, BitVec.toNat_ofNat, Nat.mod_eq_of_lt (by omega)]

/-- The constraint (b) of 43_tick_quantizer R232. -/
theorem defaultTicksFn_mono {d₁ d₂ : BitVec 32} (h : d₁ ≤ d₂) (cal : BitVec 32) :
    defaultTicksFn d₁ cal ≤ defaultTicksFn d₂ cal := by
  rw [BitVec.le_def, defaultTicksFn_toNat, defaultTicksFn_toNat]
  exact Nat.div_le_div_right (Nat.mul_le_mul_right _ h)

theorem defaultTicksFn_zero (cal : BitVec 32) : defaultTicksFn 0 cal = 0 :=
  BitVec.eq_of_toNat_eq (by simp [defaultTicksFn_toNat])

theorem ticksFnOk_defaultTicksFn : TicksFnOk defaultTicksFn where
  left cal _ _ h := defaultTicksFn_mono h cal
  right cal := by
    rw [defaultTicksFn_zero]
    decide

/-- The reference table of 44_state_decoder R265 meets R261, with a pattern for each state. -/
theorem statusTableOk_reference : StatusTableOk 13 referenceStatusTable :=
  ⟨rfl, rfl, rfl, ⟨0b1011, rfl⟩, ⟨0b1001, rfl⟩, ⟨0b0001, rfl⟩, ⟨0b1000, rfl⟩⟩

/-- The slot bound holds whatever the free value is (log 10). -/
theorem paramsValid_build : ParamsValid build where
  slots := Nat.le_add_left 1 Config.reservedMemSlotsPred
  ticks := ticksFnOk_defaultTicksFn
  window := .inr (.inr rfl)
  table := statusTableOk_reference

theorem defaultPeriphBase_toNat (i : BitVec 2) : (defaultPeriphBase i).toNat = 0x3FF48000 + 1024 * i.toNat := by
  revert i
  decide

/-- Bases 1024 apart leave room for a highest register offset of 1020 (42_render R210). -/
theorem regionsDisjoint_default : RegionsDisjoint defaultPeriphBase := by
  intro i j distinct
  rw [defaultPeriphBase_toNat, defaultPeriphBase_toNat]
  have apart : i.toNat ≠ j.toNat := fun h => distinct (BitVec.eq_of_toNat_eq h)
  omega

/-- Settles O50: each field of `ParamsValid` for the default build, and its four regions. -/
theorem defaultBuildMeetsConstraints : Obligations.DefaultBuildMeetsConstraints :=
  ⟨paramsValid_build, regionsDisjoint_default⟩

end Sys2Proof.Proofs.Scope
end

section
/-! One step is one evaluation of the block (10_state R30): what the step does for a word that decodes and for one that
fails, and why every evaluation leaves the output ports legal. -/

namespace Sys2Proof.Proofs.Evaluation

open Sys2Proof.Machine Sys2Proof.Safety

/-! ## U1 and the step, by the outcome of decode -/

theorem u1_of_decode_ok {p : Params} {w : Word} {i : Instr} (decoded : decode p.unusedBitsStrict w = .ok i) :
    u1 p w = u1Ok w (record w i) (template p.periphBase i) := by
  rw [u1, decoded]

theorem u1_of_decode_error {p : Params} {w : Word} {reason : Reason}
    (failed : decode p.unusedBitsStrict w = .error reason) : u1 p w = u1Fail w reason := by
  rw [u1, failed]

theorem step_of_decode_ok {s : State} {i : Instr} (decoded : decode build.unusedBitsStrict s.ports.w = .ok i) :
    step s = completeOutcome (exec i s) := by
  rw [step, decoded]

theorem completeOutcome_of_next (s : State) : completeOutcome (.next s) = .next s.complete := rfl

theorem step_of_decode_error {s : State} {reason : Reason}
    (failed : decode build.unusedBitsStrict s.ports.w = .error reason) : step s = .next (s.driveFail reason).complete := by
  simp only [step, failed, completeOutcome_of_next]

/-- Everything a meaning can answer. -/
theorem exec_next {i : Instr} {s u : State} (meaning : exec i s = .next u) :
    u = s.driveOk (record s.ports.w i) (template build.periphBase i) := by
  rw [exec_eq_driveOk] at meaning
  exact (Host.Outcome.next.inj meaning).symm

/-- Everything a step can do: U1 as a function of `w`, completed with the other units. -/
theorem step_eq (s : State) : step s = .next (s.setU1 (u1 build s.ports.w)).complete := by
  cases outcome : decode build.unusedBitsStrict s.ports.w with
  | ok i => rw [step_of_decode_ok outcome, exec_eq_driveOk, u1_of_decode_ok outcome, completeOutcome_of_next,
      State.driveOk]
  | error reason => rw [step_of_decode_error outcome, u1_of_decode_error outcome, State.driveFail]

/-- Completing an evaluation leaves the block's function of the inputs on the outputs, once U1 is driven by its own. -/
theorem complete_setU1_out (s : State) : (s.setU1 (u1 build s.ports.w)).complete.out = evaluate build s.ports := rfl

/-- Settles O20: the step's arm for a decoded instruction, and the fields of the completed state. -/
theorem stepRunsDecodedInstruction : Obligations.StepRunsDecodedInstruction := by
  intro s i decoded
  have runs : step s = completeOutcome (exec i s) := step_of_decode_ok decoded
  refine ⟨runs, fun u meaning => ⟨u.complete, ?_, ?_⟩⟩
  · rw [runs, meaning, completeOutcome_of_next]
  · simp [exec_next meaning, State.driveOk]

/-- Settles O23: with U1 a function of `w` in both outcomes, the completed outputs are the block's function. -/
theorem stepIsTheBlockFunction : Obligations.StepIsTheBlockFunction :=
  fun s => ⟨_, step_eq s, rfl, complete_setU1_out s⟩

/-! ## Port reads after a failure (10_state R31) -/

section FailedReads

variable (w : Word) (r : Reason)

@[simp] theorem readVariant_u1Fail : readVariant (u1Fail w r) = .error .unspecifiedU1Output := U1Out.whenOk_fail w r _
@[simp] theorem readSelector_u1Fail : readSelector (u1Fail w r) = .error .unspecifiedU1Output := U1Out.whenOk_fail w r _
@[simp] theorem readMode_u1Fail : readMode (u1Fail w r) = .error .unspecifiedU1Output := U1Out.whenOk_fail w r _
@[simp] theorem readFields_u1Fail : readFields (u1Fail w r) = .error .unspecifiedU1Output := U1Out.whenOk_fail w r _
@[simp] theorem readSlots_u1Fail : readSlots (u1Fail w r) = .error .unspecifiedU1Output := U1Out.whenOk_fail w r _
@[simp] theorem readPseudo_u1Fail : readPseudo (u1Fail w r) = .error .unspecifiedU1Output := U1Out.whenOk_fail w r _

@[simp] theorem readTargetReg_u1Fail : readTargetReg (u1Fail w r) = .error .unspecifiedU1Output := by
  rw [readTargetReg, readFields_u1Fail]

@[simp] theorem readTargetAddr_u1Fail : readTargetAddr (u1Fail w r) = .error .unspecifiedU1Output := by
  rw [readTargetAddr, readFields_u1Fail]

end FailedReads

/-- Settles O21: the failure outcome on U1's ports, completed with the other units. -/
theorem failingWordDrivesFailure : Obligations.FailingWordDrivesFailure := by
  intro s reason failed
  refine ⟨_, step_of_decode_error failed, rfl, ?code, ?others⟩
  case code => cases reason <;> rfl
  case others => simp [State.driveFail]

/-! ## The legal ports of each unit -/

theorem u1Legal_u1 (p : Params) (w : Word) : U1Legal (u1 p w) := by
  cases outcome : decode p.unusedBitsStrict w with
  | ok i =>
    rw [u1_of_decode_ok outcome]
    exact .inl ⟨rfl, rfl, rfl, fun _ => u1Ok_selector, fun _ => u1Ok_mode, rfl, rfl⟩
  | error reason =>
    rw [u1_of_decode_error outcome]
    exact .inr ⟨rfl, reason, rfl⟩

/-- The four ranges of 43_tick_quantizer R237; between bits 16 and 31 the shift is the highest bit less 15. -/
theorem shiftLegal_selectShift (raw : BitVec 64) : ShiftLegal (selectShift raw) := by
  rw [selectShift]
  split_ifs with zero high low
  · exact .inl (by decide)
  · exact .inr rfl
  · exact .inl (by decide)
  · rw [ShiftLegal, BitVec.toNat_ofNat]
    omega

theorem visibleValue_toNat (raw : BitVec 64) (shift : Nat) :
    (visibleValue raw shift).toNat = raw.toNat / 2 ^ shift % 2 ^ 16 := by
  rw [visibleValue, BitVec.toNat_ofNat, Nat.mod_mod]

theorem over48Of_eq_one_iff (raw : BitVec 64) : over48Of raw = 1 ↔ 2 ^ 48 ≤ raw.toNat :=
  (BitVec.ofBool_eq_iff_eq (b' := true)).trans decide_eq_true_iff

theorem quantizeLegal_quantizeRaw (raw : BitVec 64) : QuantizeLegal (quantizeRaw raw) :=
  ⟨shiftLegal_selectShift raw, visibleValue_toNat raw _, over48Of_eq_one_iff raw⟩

/-- Code 6 is Unknown's alone, and no state has code 7 (10_state R35). -/
theorem stateCode_documented_ne (d : DocState) : stateCode (.documented d) ≠ 6 ∧ stateCode (.documented d) ≠ 7 := by
  cases d <;> decide

theorem decodeState_of_some {p : Params} {status : Word} {d : DocState}
    (row : p.statusTable (statusPattern p.statusWindowLsb status) = some d) :
    decodeState p status = { state := stateCode (.documented d), diagValid := 0, diagPattern := 0 } := by
  rw [decodeState, row]

theorem decodeState_of_none {p : Params} {status : Word}
    (noRow : p.statusTable (statusPattern p.statusWindowLsb status) = none) :
    decodeState p status =
      { state := 6, diagValid := 1, diagPattern := status &&& statusMask p.statusWindowLsb } := by
  rw [decodeState, noRow, stateCode]

theorem u3Legal_decodeState (p : Params) (status : Word) : U3Legal (decodeState p status) := by
  cases entry : p.statusTable (statusPattern p.statusWindowLsb status) with
  | some d =>
    rw [decodeState_of_some entry]
    obtain ⟨ne_unknown, ne_seven⟩ := stateCode_documented_ne d
    exact ⟨ne_seven, iff_of_false (by simp) ne_unknown, fun _ => rfl⟩
  | none =>
    rw [decodeState_of_none entry]
    simp [U3Legal]

/-- Every evaluation of any build drives legal ports; no port keeps anything of an earlier one. -/
theorem outputsLegal_evaluate (p : Params) (inputs : Inputs) : OutputsLegal (evaluate p inputs) :=
  ⟨u1Legal_u1 p _, quantizeLegal_quantizeRaw _, shiftLegal_selectShift _, u3Legal_decodeState p _⟩

/-- A state whose outputs are the function of its held inputs meets the whole invariant. -/
theorem inv_of_settled {s : State} (settled : Settled s) : Inv s := by
  refine ⟨?_, settled⟩
  rw [settled]
  exact outputsLegal_evaluate build s.held

/-- Settles O25: a step settles the state, whatever the state before it held. -/
theorem stepKeepsInvariant : Obligations.StepKeepsInvariant := by
  intro s t _ stepped
  obtain ⟨t', step_t', held, out⟩ := stepIsTheBlockFunction s
  obtain rfl : t' = t := Host.Outcome.next.inj (step_t'.symm.trans stepped)
  exact inv_of_settled (by rw [Settled, out, held])

/-! ## The diagnostic of U3 (44_state_decoder R262) -/

theorem statusMask_shiftRight {lsb : Nat} (window : lsb = 11 ∨ lsb = 12 ∨ lsb = 13) :
    (statusMask lsb).toNat >>> lsb = 2 ^ 4 - 1 := by
  rcases window with rfl | rfl | rfl <;> rfl

/-- The masked snapshot, shifted down by the window position, is the window's pattern. -/
theorem and_statusMask_div {lsb : Nat} (window : lsb = 11 ∨ lsb = 12 ∨ lsb = 13) (status : Word) :
    (status &&& statusMask lsb).toNat / 2 ^ lsb = status.toNat / 2 ^ lsb % 16 := by
  rw [BitVec.toNat_and, ← Nat.shiftRight_eq_div_pow, Nat.shiftRight_and_distrib, statusMask_shiftRight window,
    Nat.and_two_pow_sub_one_eq_mod, Nat.shiftRight_eq_div_pow]

/-- A valid diagnostic is the snapshot under the mask. -/
theorem diagPattern_of_diagValid {p : Params} {status : Word} (valid : (decodeState p status).diagValid = 1) :
    (decodeState p status).diagPattern = status &&& statusMask p.statusWindowLsb := by
  cases entry : p.statusTable (statusPattern p.statusWindowLsb status) with
  | some d => simp [decodeState_of_some entry] at valid
  | none => rw [decodeState_of_none entry]

/-- Settles O54: U3's ports are legal under any build, and the mask is the window's four bits. -/
theorem diagnosticNamesThePattern : Obligations.DiagnosticNamesThePattern := by
  intro p params status
  obtain ⟨notSeven, validIff, -⟩ := u3Legal_decodeState p status
  refine ⟨validIff, fun valid => ?_, notSeven⟩
  rw [diagPattern_of_diagValid valid, and_statusMask_div params.window]

end Sys2Proof.Proofs.Evaluation
end

section
/-! Each unit is a function of its own inputs (20_memory R69, 60_exceptions R288). -/

namespace Sys2Proof.Proofs.Independence

open Sys2Proof.Machine

/-- Whatever a step answers, its outputs are the block's function of the inputs the step saw. -/
theorem out_of_step {s t : State} (stepped : step s = .next t) : t.out = evaluate build s.ports := by
  obtain ⟨t', step_t', -, out⟩ := Evaluation.stepIsTheBlockFunction s
  obtain rfl : t' = t := Host.Outcome.next.inj (step_t'.symm.trans stepped)
  exact out

/-- Settles O24: `evaluate` applies each unit's function to that unit's inputs and to nothing else of the state. -/
theorem unitsDependOnTheirOwnInputsOnly : Obligations.UnitsDependOnTheirOwnInputsOnly := by
  intro s₁ s₂ t₁ t₂ step₁ step₂
  rw [out_of_step step₁, out_of_step step₂]
  refine ⟨fun w => ?u1, fun program => ?listing, fun durationMs cal => ?quantize, fun selRaw => ?select,
    fun winRaw shiftIn => ?window, fun status => ?u3⟩
  case u1 => simp only [evaluate, w]
  case listing => simp only [evaluate, program]
  case quantize => simp only [evaluate, durationMs, cal]
  case select => simp only [evaluate, selRaw]
  case window => simp only [evaluate, winRaw, shiftIn]
  case u3 => simp only [evaluate, status]

end Sys2Proof.Proofs.Independence
end

section
/-! Program images (20_memory R62): the number four bytes stand for, a word from its own bytes, and the words of an image. -/

namespace Sys2Proof.Proofs.Images

theorem toNat_append_byte {n : Nat} (high : BitVec n) (low : Byte) :
    (high ++ low).toNat = low.toNat + high.toNat * 2 ^ 8 := by
  rw [BitVec.toNat_append, ← Nat.shiftLeft_add_eq_or_of_lt low.isLt, Nat.shiftLeft_eq, Nat.add_comm]

theorem wordOfBytes_toNat (b0 b1 b2 b3 : Byte) : (wordOfBytes b0 b1 b2 b3).toNat =
    b0.toNat + b1.toNat * 2 ^ 8 + b2.toNat * 2 ^ 16 + b3.toNat * 2 ^ 24 := by
  simp only [wordOfBytes, toNat_append_byte]
  omega

/-- The four slices of a word are its digits in base 256. -/
theorem wordOfBytes_fields (w : Word) :
    wordOfBytes (field w 7 0) (field w 15 8) (field w 23 16) (field w 31 24) = w := by
  refine BitVec.eq_of_toNat_eq ?_
  simp only [wordOfBytes_toNat, field_toNat, slice]
  omega

theorem wordsOfImage_bytesOfWord_append (w : Word) (rest : List Byte) :
    wordsOfImage (bytesOfWord w ++ rest) = (wordsOfImage rest).map (w :: ·) := by
  simp only [bytesOfWord, List.cons_append, List.nil_append, wordsOfImage, wordOfBytes_fields]

theorem wordsOfImage_flatMap_bytesOfWord (ws : List Word) : wordsOfImage (ws.flatMap bytesOfWord) = some ws := by
  induction ws with
  | nil => rfl
  | cons w ws ih => rw [List.flatMap_cons, wordsOfImage_bytesOfWord_append, ih, Option.map_some]

/-- An image is read four bytes at a time, so only the length's remainder by 4 decides whether bytes are left over. -/
theorem isSome_wordsOfImage_iff (bytes : List Byte) : (wordsOfImage bytes).isSome ↔ bytes.length % 4 = 0 := by
  match bytes with
  | [] => simp [wordsOfImage]
  | [_] | [_, _] | [_, _, _] => simp [wordsOfImage]
  | b0 :: b1 :: b2 :: b3 :: rest =>
    have ih := isSome_wordsOfImage_iff rest
    simp only [wordsOfImage, Option.isSome_map, List.length_cons, ih]
    omega

/-- Settles O57: the append of bytes as a number, the round trip by induction on the words, and the image four bytes at a
time. -/
theorem programImagesAreLittleEndian : Obligations.ProgramImagesAreLittleEndian :=
  ⟨wordOfBytes_toNat, wordsOfImage_flatMap_bytesOfWord, fun bytes =>
    Option.isSome_iff_exists.symm.trans (isSome_wordsOfImage_iff bytes)⟩

end Sys2Proof.Proofs.Images
end

section
/-! Masks and bit slices: a mask made of ranges, what agreement under it says about slices, and the masks of the opcode
table (30_encoding R111) as the ranges of the formats. -/

namespace Sys2Proof.Proofs.Masks

open Sys2Proof.Claims

/-! ## A mask made of ranges -/

/-- The word with ones exactly at bits `hi` down to `lo`. -/
def rangeMask (hi lo : Nat) : Word := (BitVec.allOnes (hi - lo + 1)).setWidth 32 <<< lo

/-- The word with ones exactly at the bits of some range `(hi, lo)` of the list. -/
def rangesMask : List (Nat × Nat) → Word
  | [] => 0
  | (hi, lo) :: rest => rangeMask hi lo ||| rangesMask rest

/-- Two words have the same slice at every range `(hi, lo)` of the list. -/
def AgreeOn (w k : Word) : List (Nat × Nat) → Prop
  | [] => True
  | (hi, lo) :: rest => slice w hi lo = slice k hi lo ∧ AgreeOn w k rest

theorem getLsbD_rangeMask (hi lo i : Nat) :
    (rangeMask hi lo).getLsbD i = true ↔ i < 32 ∧ lo ≤ i ∧ i - lo < hi - lo + 1 := by
  simp only [rangeMask, BitVec.getLsbD_shiftLeft, BitVec.getLsbD_setWidth, BitVec.getLsbD_allOnes, Bool.and_eq_true,
    decide_eq_true_eq, Bool.not_eq_true', decide_eq_false_iff_not]
  omega

theorem testBit_slice (w : Word) (hi lo i : Nat) :
    (slice w hi lo).testBit i = (decide (i < hi - lo + 1) && w.getLsbD (lo + i)) := by
  rw [slice, Nat.testBit_mod_two_pow, Nat.testBit_div_two_pow, Nat.add_comm i lo, BitVec.getLsbD]

/-- Words agree under a mask exactly when they agree at each of its ones. -/
theorem and_eq_and_iff {w k m : Word} :
    w &&& m = k &&& m ↔ ∀ i, m.getLsbD i = true → w.getLsbD i = k.getLsbD i := by
  constructor
  · intro masked i one
    simpa [one] using congrArg (·.getLsbD i) masked
  · intro bits
    refine BitVec.eq_of_getLsbD_eq fun i _ => ?_
    cases one : m.getLsbD i <;> simp [one, bits]

theorem and_or_eq_iff {w k a b : Word} :
    w &&& (a ||| b) = k &&& (a ||| b) ↔ w &&& a = k &&& a ∧ w &&& b = k &&& b := by
  simp only [and_eq_and_iff, BitVec.getLsbD_or, Bool.or_eq_true, or_imp, forall_and]

theorem and_rangeMask_eq_iff {w k : Word} {hi lo : Nat} :
    w &&& rangeMask hi lo = k &&& rangeMask hi lo ↔ slice w hi lo = slice k hi lo := by
  rw [and_eq_and_iff]
  constructor
  · intro bits
    refine Nat.eq_of_testBit_eq fun i => ?_
    rw [testBit_slice, testBit_slice]
    by_cases inside : lo + i < 32 ∧ i < hi - lo + 1
    · rw [bits (lo + i) ((getLsbD_rangeMask ..).2 (by omega))]
    · by_cases short : i < hi - lo + 1
      · rw [BitVec.getLsbD_of_ge w _ (by omega), BitVec.getLsbD_of_ge k _ (by omega)]
      · simp [short]
  · intro slices i one
    obtain ⟨-, low, high⟩ := (getLsbD_rangeMask ..).1 one
    have bit := congrArg (·.testBit (i - lo)) slices
    simpa [testBit_slice, high, Nat.add_sub_cancel' low] using bit

theorem and_rangesMask_eq_iff {w k : Word} {rs : List (Nat × Nat)} :
    w &&& rangesMask rs = k &&& rangesMask rs ↔ AgreeOn w k rs := by
  induction rs with
  | nil => simp [rangesMask, AgreeOn]
  | cons r rs ih => rw [rangesMask, and_or_eq_iff, and_rangeMask_eq_iff, ih, AgreeOn]

theorem agreeOn_append {w k : Word} {rs ss : List (Nat × Nat)} :
    AgreeOn w k (rs ++ ss) ↔ AgreeOn w k rs ∧ AgreeOn w k ss := by
  induction rs with
  | nil => simp [AgreeOn]
  | cons r rs ih => rw [List.cons_append, AgreeOn, AgreeOn, ih, and_assoc]

theorem slice_zero (hi lo : Nat) : slice 0 hi lo = 0 := by simp [slice]

/-! ## The number under a mask -/

/-- The slices at the ranges, each put back at its bits. -/
def placedSlices (w : Word) : List (Nat × Nat) → Nat
  | [] => 0
  | (hi, lo) :: rest => slice w hi lo * 2 ^ lo + placedSlices w rest

/-- No bit lies in two of the ranges. -/
abbrev Apart (rs : List (Nat × Nat)) : Prop :=
  rs.Pairwise fun r s => rangeMask r.1 r.2 &&& rangeMask s.1 s.2 = 0

theorem toNat_or_of_and_eq_zero {a b : Word} (apart : a &&& b = 0) : (a ||| b).toNat = a.toNat + b.toNat := by
  rw [← BitVec.add_eq_or_of_and_eq_zero a b apart, BitVec.toNat_add_of_and_eq_zero apart]

theorem and_rangesMask_eq_zero {m : Word} {rs : List (Nat × Nat)} (apart : ∀ r ∈ rs, m &&& rangeMask r.1 r.2 = 0) :
    m &&& rangesMask rs = 0 := by
  induction rs with
  | nil => simp [rangesMask]
  | cons r rs ih =>
    obtain ⟨head, tail⟩ := List.forall_mem_cons.1 apart
    rw [rangesMask, BitVec.and_or_distrib_left, head, ih tail, BitVec.or_self]

theorem and_rangeMask_toNat (w : Word) (hi lo : Nat) : (w &&& rangeMask hi lo).toNat = slice w hi lo * 2 ^ lo := by
  refine Nat.eq_of_testBit_eq fun i => ?_
  rw [BitVec.testBit_toNat, BitVec.getLsbD_and, Nat.testBit_mul_two_pow, testBit_slice, Bool.eq_iff_iff]
  simp only [Bool.and_eq_true, getLsbD_rangeMask, decide_eq_true_eq]
  constructor
  · rintro ⟨bit, -, low, high⟩
    exact ⟨low, high, by rwa [Nat.add_sub_cancel' low]⟩
  · rintro ⟨low, high, bit⟩
    rw [Nat.add_sub_cancel' low] at bit
    exact ⟨bit, BitVec.lt_of_getLsbD bit, low, high⟩

/-- Under a mask of ranges apart, a word is the number its slices make. -/
theorem and_rangesMask_toNat {w : Word} {rs : List (Nat × Nat)} (apart : Apart rs) :
    (w &&& rangesMask rs).toNat = placedSlices w rs := by
  induction rs with
  | nil => simp [rangesMask, placedSlices]
  | cons r rs ih =>
    obtain ⟨head, tail⟩ := List.pairwise_cons.1 apart
    have halves : (w &&& rangeMask r.1 r.2) &&& (w &&& rangesMask rs) = 0 :=
      calc (w &&& rangeMask r.1 r.2) &&& (w &&& rangesMask rs)
          = w &&& w &&& (rangeMask r.1 r.2 &&& rangesMask rs) := by ac_rfl
        _ = 0 := by rw [and_rangesMask_eq_zero head]; exact BitVec.and_zero
    rw [rangesMask, BitVec.and_or_distrib_left, toNat_or_of_and_eq_zero halves, and_rangeMask_toNat, ih tail,
      placedSlices]

/-! ## The masks of the opcode table -/

/-- The bits that name a row: opcode, sub-opcode and selector (30_encoding R81 to R83). -/
def selectorRanges : Row → List (Nat × Nat)
  | .wrReg | .rdReg | .i2cRw | .delay | .adc | .tsens | .halt | .ld => [(31, 28)]
  | .st | .wake | .sleepCycleSel => [(31, 28), (27, 25)]
  | .addr | .subr | .andr | .orr | .movr | .lshr | .rshr
  | .addi | .subi | .andi | .ori | .movi | .lshi | .rshi
  | .stageInc | .stageDec | .stageRst => [(31, 28), (27, 25), (24, 21)]
  | .bxr | .bxi | .bxzr | .bxzi | .bxfr | .bxfi => [(31, 28), (27, 25), (24, 22), (21, 21)]
  | .bl | .bge => [(31, 28), (27, 25), (16, 16)]
  | .jumpsLt | .jumpsGe | .jumpsLe => [(31, 28), (27, 25), (16, 15)]
  | .label => [(31, 28), (27, 24)]

/-- The bit a row fixes without being named by it: bit 0 of I_WAKE (30_encoding R96). -/
def valueRanges : Row → List (Nat × Nat)
  | .wake => [(0, 0)]
  | _ => []

/-- The ranges of a row's operand fields, in the order of the fields (30_encoding R84 to R101). -/
def operandRanges : Row → List (Nat × Nat)
  | .wrReg => [(9, 8), (7, 0), (22, 18), (27, 23), (17, 10)]
  | .rdReg => [(9, 8), (7, 0), (22, 18), (27, 23)]
  | .i2cRw => [(7, 0), (15, 8), (18, 16), (21, 19), (25, 22), (27, 27)]
  | .delay | .label => [(15, 0)]
  | .adc => [(1, 0), (6, 6), (5, 2)]
  | .st | .ld => [(1, 0), (3, 2), (20, 10)]
  | .addr | .subr | .andr | .orr | .movr | .lshr | .rshr => [(1, 0), (3, 2), (5, 4)]
  | .addi | .subi | .andi | .ori | .movi | .lshi | .rshi => [(1, 0), (3, 2), (19, 4)]
  | .stageInc | .stageDec | .stageRst => [(11, 4)]
  | .bxr | .bxi | .bxzr | .bxzi | .bxfr | .bxfi => [(1, 0), (12, 2)]
  | .bl | .bge => [(23, 17), (24, 24), (15, 0)]
  | .jumpsLt | .jumpsGe | .jumpsLe => [(23, 17), (24, 24), (7, 0)]
  | .wake | .halt => []
  | .sleepCycleSel => [(3, 0)]
  | .tsens => [(1, 0), (15, 2)]

theorem lenientMask_eq_rangesMask (row : Row) : lenientMask row = rangesMask (selectorRanges row ++ valueRanges row) := by
  cases row <;> decide

theorem unusedMask_eq_rangesMask (row : Row) : unusedMask row = rangesMask (unusedRanges row) := by
  cases row <;> decide

theorem strictMask_eq_or (row : Row) : strictMask row = lenientMask row ||| unusedMask row := by
  cases row <;> decide

theorem matchWord_and_lenientMask (row : Row) : matchWord row &&& lenientMask row = matchWord row := by
  cases row <;> decide

theorem matchWord_and_unusedMask (row : Row) : matchWord row &&& unusedMask row = 0 := by
  cases row <;> decide

theorem matchWord_and_operandRanges (row : Row) : matchWord row &&& rangesMask (operandRanges row) = 0 := by
  cases row <;> decide

/-- Every bit of a format is fixed, unused or an operand's. -/
theorem strictMask_or_operandRanges (row : Row) :
    strictMask row ||| rangesMask (operandRanges row) = BitVec.allOnes 32 := by
  cases row <;> decide

theorem apart_operandRanges (row : Row) : Apart (operandRanges row) := by
  cases row <;> decide

/-! ## What the masks say about a word -/

theorem and_lenientMask_eq_iff {row : Row} {w : Word} : w &&& lenientMask row = matchWord row ↔
    AgreeOn w (matchWord row) (selectorRanges row) ∧ AgreeOn w (matchWord row) (valueRanges row) := by
  rw [← agreeOn_append, ← and_rangesMask_eq_iff, ← lenientMask_eq_rangesMask, matchWord_and_lenientMask]

/-- A word of the strict mask is one of the lenient mask with no unused bit. -/
theorem and_strictMask_eq_iff {row : Row} {w : Word} : w &&& strictMask row = matchWord row ↔
    w &&& lenientMask row = matchWord row ∧ w &&& unusedMask row = 0 := by
  have whole : matchWord row &&& strictMask row = matchWord row := by
    rw [strictMask_eq_or, BitVec.and_or_distrib_left, matchWord_and_lenientMask, matchWord_and_unusedMask]
    exact BitVec.or_zero
  conv_lhs => rw [← whole, strictMask_eq_or, and_or_eq_iff, matchWord_and_lenientMask, matchWord_and_unusedMask]

theorem agreeOn_zero_iff {w : Word} {rs : List (Nat × Nat)} : AgreeOn w 0 rs ↔ ∀ r ∈ rs, slice w r.1 r.2 = 0 := by
  induction rs with
  | nil => simp [AgreeOn]
  | cons r rs ih => rw [AgreeOn, ih, slice_zero, List.forall_mem_cons]

theorem hasUnused_eq_false_iff {row : Row} {w : Word} :
    hasUnused row w = false ↔ ∀ r ∈ unusedRanges row, slice w r.1 r.2 = 0 := by
  simp [hasUnused]

/-- The unused ranges of a format are the bits of its unused mask (40_decode_core R120). -/
theorem and_unusedMask_eq_zero_iff {row : Row} {w : Word} : w &&& unusedMask row = 0 ↔ hasUnused row w = false := by
  have zero : 0 &&& unusedMask row = 0 := BitVec.zero_and
  rw [hasUnused_eq_false_iff, ← agreeOn_zero_iff, ← and_rangesMask_eq_iff, ← unusedMask_eq_rangesMask, zero]

end Sys2Proof.Proofs.Masks
end

section
/-! Steps 1 to 3 of decoding (40_decode_core R120): what `classify` answers, said once for every word and answer. -/

namespace Sys2Proof.Proofs.Classification

open Sys2Proof.Claims Sys2Proof.Proofs.Masks

/-! ## The condition of each answer -/

/-- The word has the opcode, sub-opcode and selector of the row. -/
def SelectorBits (row : Row) (w : Word) : Prop := AgreeOn w (matchWord row) (selectorRanges row)

/-- When steps 1 to 3 give an answer (30_encoding R81 to R83, R105). The reasons of steps 4 and 5 are never theirs. -/
def ClassifyMeans (w : Word) : Except Reason Row → Prop
  | .ok row => SelectorBits row w
  | .error .badOpcode => BadOpcode w
  | .error .badSubopcode => BadSubopcode w
  | .error .badSelector => BadSelector w
  | .error .badValue | .error .nonzeroUnused => False

/-! ## From the answer to its condition, table by table -/

theorem slice_bit (w : Word) (n : Nat) : slice w n n = 0 ∨ slice w n n = 1 := by
  have bit := slice_lt w n n
  rw [Nat.sub_self] at bit
  omega

section Tables

variable {w : Word}

theorem aluRegRow_means {n : Nat} (op : slice w 31 28 = 7) (sub : slice w 27 25 = 0) (sel : slice w 24 21 = n) :
    ClassifyMeans w (aluRegRow n) :=
  match n, sel with
  | 0, sel | 1, sel | 2, sel | 3, sel | 4, sel | 5, sel | 6, sel => ⟨op, sub, sel, trivial⟩
  | n + 7, sel => .inl ⟨op, .inl sub, sel ▸ Nat.le_add_left 7 n⟩

theorem aluImmRow_means {n : Nat} (op : slice w 31 28 = 7) (sub : slice w 27 25 = 1) (sel : slice w 24 21 = n) :
    ClassifyMeans w (aluImmRow n) :=
  match n, sel with
  | 0, sel | 1, sel | 2, sel | 3, sel | 4, sel | 5, sel | 6, sel => ⟨op, sub, sel, trivial⟩
  | n + 7, sel => .inl ⟨op, .inr sub, sel ▸ Nat.le_add_left 7 n⟩

theorem aluStageRow_means {n : Nat} (op : slice w 31 28 = 7) (sub : slice w 27 25 = 2) (sel : slice w 24 21 = n) :
    ClassifyMeans w (aluStageRow n) :=
  match n, sel with
  | 0, sel | 1, sel | 2, sel => ⟨op, sub, sel, trivial⟩
  | n + 3, sel => .inr (.inl ⟨op, sub, sel ▸ Nat.le_add_left 3 n⟩)

theorem bxRow_means {n : Nat} (op : slice w 31 28 = 8) (sub : slice w 27 25 = 0) (type : slice w 24 22 = n) :
    ClassifyMeans w (bxRow n (slice w 21 21)) := by
  match n, type with
  | 0, type | 1, type | 2, type =>
    rcases slice_bit w 21 with reg | reg <;> rw [reg] <;> exact ⟨op, sub, type, reg, trivial⟩
  | n + 3, type => exact .inr (.inr (.inl ⟨op, sub, type ▸ Nat.le_add_left 3 n⟩))

theorem bRow_means (op : slice w 31 28 = 8) (sub : slice w 27 25 = 1) : ClassifyMeans w (bRow (slice w 16 16)) := by
  rcases slice_bit w 16 with cmp | cmp <;> rw [cmp] <;> exact ⟨op, sub, cmp, trivial⟩

theorem bsRow_means {n : Nat} (op : slice w 31 28 = 8) (sub : slice w 27 25 = 2) (cmp : slice w 16 15 = n) :
    ClassifyMeans w (bsRow n) :=
  match n, cmp with
  | 0, cmp | 1, cmp | 2, cmp => ⟨op, sub, cmp, trivial⟩
  | 3, cmp => .inr (.inr (.inr ⟨op, sub, cmp⟩))
  | n + 4, cmp => absurd (slice_lt w 16 15) (by omega)

theorem classifyAlu_means (op : slice w 31 28 = 7) : ClassifyMeans w (classifyAlu w) := by
  unfold classifyAlu
  split
  case h_1 sub => exact aluRegRow_means op sub rfl
  case h_2 sub => exact aluImmRow_means op sub rfl
  case h_3 sub => exact aluStageRow_means op sub rfl
  case h_4 =>
    simp only [imp_false] at *
    exact .inr (.inl ⟨op, by rw [subopcode]; omega⟩)

theorem classifyBranch_means (op : slice w 31 28 = 8) : ClassifyMeans w (classifyBranch w) := by
  unfold classifyBranch
  split
  case h_1 sub => exact bxRow_means op sub rfl
  case h_2 sub => exact bRow_means op sub
  case h_3 sub => exact bsRow_means op sub rfl
  case h_4 =>
    simp only [imp_false] at *
    exact .inr (.inr (.inl ⟨op, by rw [subopcode]; omega⟩))

theorem classifyEnd_means (op : slice w 31 28 = 9) : ClassifyMeans w (classifyEnd w) := by
  unfold classifyEnd
  split
  case h_1 sub => exact ⟨op, sub, trivial⟩
  case h_2 sub => exact ⟨op, sub, trivial⟩
  case h_3 =>
    simp only [imp_false] at *
    exact .inr (.inr (.inr (.inl ⟨op, by rw [subopcode]; omega⟩)))

end Tables

theorem classify_means (w : Word) : ClassifyMeans w (classify w) := by
  have bits := slice_lt w 31 28
  unfold classify
  split
  case h_6 op =>
    split
    case isTrue sub => exact ⟨op, sub, trivial⟩
    case isFalse sub => exact .inl ⟨op, sub⟩
  case h_7 op => exact classifyAlu_means op
  case h_8 op => exact classifyBranch_means op
  case h_9 op => exact classifyEnd_means op
  case h_13 op =>
    split
    case isTrue sub => exact ⟨op, sub, trivial⟩
    case isFalse sub => exact .inr (.inr (.inr (.inr ⟨op, sub⟩)))
  case h_14 =>
    simp only [imp_false] at *
    simp only [ClassifyMeans, BadOpcode, opcode]
    omega
  all_goals exact ⟨‹_›, trivial⟩

/-! ## From the condition to the answer -/

theorem classify_of_selectorBits {w : Word} : {row : Row} → SelectorBits row w → classify w = .ok row
  | .wrReg, ⟨op, _⟩ => classify_wrReg op
  | .rdReg, ⟨op, _⟩ => classify_rdReg op
  | .i2cRw, ⟨op, _⟩ => classify_i2cRw op
  | .delay, ⟨op, _⟩ => classify_delay op
  | .adc, ⟨op, _⟩ => classify_adc op
  | .st, ⟨op, sub, _⟩ => classify_st op sub
  | .addr, ⟨op, sub, sel, _⟩ => classify_addr op sub sel
  | .subr, ⟨op, sub, sel, _⟩ => classify_subr op sub sel
  | .andr, ⟨op, sub, sel, _⟩ => classify_andr op sub sel
  | .orr, ⟨op, sub, sel, _⟩ => classify_orr op sub sel
  | .movr, ⟨op, sub, sel, _⟩ => classify_movr op sub sel
  | .lshr, ⟨op, sub, sel, _⟩ => classify_lshr op sub sel
  | .rshr, ⟨op, sub, sel, _⟩ => classify_rshr op sub sel
  | .addi, ⟨op, sub, sel, _⟩ => classify_addi op sub sel
  | .subi, ⟨op, sub, sel, _⟩ => classify_subi op sub sel
  | .andi, ⟨op, sub, sel, _⟩ => classify_andi op sub sel
  | .ori, ⟨op, sub, sel, _⟩ => classify_ori op sub sel
  | .movi, ⟨op, sub, sel, _⟩ => classify_movi op sub sel
  | .lshi, ⟨op, sub, sel, _⟩ => classify_lshi op sub sel
  | .rshi, ⟨op, sub, sel, _⟩ => classify_rshi op sub sel
  | .stageInc, ⟨op, sub, sel, _⟩ => classify_stageInc op sub sel
  | .stageDec, ⟨op, sub, sel, _⟩ => classify_stageDec op sub sel
  | .stageRst, ⟨op, sub, sel, _⟩ => classify_stageRst op sub sel
  | .bxr, ⟨op, sub, type, reg, _⟩ => classify_bxr op sub type reg
  | .bxi, ⟨op, sub, type, reg, _⟩ => classify_bxi op sub type reg
  | .bxzr, ⟨op, sub, type, reg, _⟩ => classify_bxzr op sub type reg
  | .bxzi, ⟨op, sub, type, reg, _⟩ => classify_bxzi op sub type reg
  | .bxfr, ⟨op, sub, type, reg, _⟩ => classify_bxfr op sub type reg
  | .bxfi, ⟨op, sub, type, reg, _⟩ => classify_bxfi op sub type reg
  | .bl, ⟨op, sub, cmp, _⟩ => classify_bl op sub cmp
  | .bge, ⟨op, sub, cmp, _⟩ => classify_bge op sub cmp
  | .jumpsLt, ⟨op, sub, cmp, _⟩ => classify_jumpsLt op sub cmp
  | .jumpsGe, ⟨op, sub, cmp, _⟩ => classify_jumpsGe op sub cmp
  | .jumpsLe, ⟨op, sub, cmp, _⟩ => classify_jumpsLe op sub cmp
  | .wake, ⟨op, sub, _⟩ => classify_wake op sub
  | .sleepCycleSel, ⟨op, sub, _⟩ => classify_sleepCycleSel op sub
  | .tsens, ⟨op, _⟩ => classify_tsens op
  | .halt, ⟨op, _⟩ => classify_halt op
  | .ld, ⟨op, _⟩ => classify_ld op
  | .label, ⟨op, sub, _⟩ => classify_label op sub

theorem classify_of_badOpcode {w : Word} (bad : BadOpcode w) : classify w = .error .badOpcode := by
  rw [BadOpcode, opcode] at bad
  rcases bad with op | op | op <;> simp [classify, op]

/-- A value past the last assigned one is written `n + k`, the form in which the match takes its default arm. -/
theorem classify_of_badSubopcode {w : Word} (bad : BadSubopcode w) : classify w = .error .badSubopcode := by
  simp only [BadSubopcode, opcode, subopcode] at bad
  rcases bad with ⟨op, sub⟩ | ⟨op, sub⟩ | ⟨op, sub⟩ | ⟨op, sub⟩ | ⟨op, sub⟩
  · simp [classify, op, sub]
  · obtain ⟨n, more⟩ := Nat.exists_eq_add_of_le' sub
    simp [classify, classifyAlu, op, more]
  · obtain ⟨n, more⟩ := Nat.exists_eq_add_of_le' sub
    simp [classify, classifyBranch, op, more]
  · obtain ⟨n, more⟩ := Nat.exists_eq_add_of_le' sub
    simp [classify, classifyEnd, op, more]
  · simp [classify, op, sub]

theorem classify_of_badSelector {w : Word} (bad : BadSelector w) : classify w = .error .badSelector := by
  simp only [BadSelector, opcode, subopcode] at bad
  rcases bad with ⟨op, sub | sub, sel⟩ | ⟨op, sub, sel⟩ | ⟨op, sub, sel⟩ | ⟨op, sub, cmp⟩
  · obtain ⟨n, more⟩ := Nat.exists_eq_add_of_le' sel
    simp [classify, classifyAlu, aluRegRow, op, sub, more]
  · obtain ⟨n, more⟩ := Nat.exists_eq_add_of_le' sel
    simp [classify, classifyAlu, aluImmRow, op, sub, more]
  · obtain ⟨n, more⟩ := Nat.exists_eq_add_of_le' sel
    simp [classify, classifyAlu, aluStageRow, op, sub, more]
  · obtain ⟨n, more⟩ := Nat.exists_eq_add_of_le' sel
    simp [classify, classifyBranch, bxRow, op, sub, more]
  · simp [classify, classifyBranch, bsRow, op, sub, cmp]

/-- Everything `classify` answers, and exactly when. -/
theorem classify_eq_iff {w : Word} {answer : Except Reason Row} : classify w = answer ↔ ClassifyMeans w answer := by
  constructor
  · rintro rfl
    exact classify_means w
  · intro means
    match answer, means with
    | .ok _, bits => exact classify_of_selectorBits bits
    | .error .badOpcode, bad => exact classify_of_badOpcode bad
    | .error .badSubopcode, bad => exact classify_of_badSubopcode bad
    | .error .badSelector, bad => exact classify_of_badSelector bad

end Sys2Proof.Proofs.Classification
end

section
/-! The words each row of the opcode table accepts (30_encoding R110, R111), and what `decode` answers, said once for every
word and answer (40_decode_core R120, 30_encoding R105). -/

namespace Sys2Proof.Proofs.Acceptance

open Sys2Proof.Claims Sys2Proof.Proofs.Masks Sys2Proof.Proofs.Classification

/-! ## The value checks -/

theorem badValue_eq_true_iff {row : Row} {w : Word} : badValue row w = true ↔
    row = .adc ∧ slice w 5 2 = 0 ∨ row = .wake ∧ slice w 0 0 = 0 := by
  simp [badValue]

theorem badValue_eq_false_iff {row : Row} {w : Word} : badValue row w = false ↔
    ¬(row = .adc ∧ slice w 5 2 = 0) ∧ ¬(row = .wake ∧ slice w 0 0 = 0) := by
  rw [← Bool.not_eq_true, badValue_eq_true_iff, not_or]

theorem agreeOn_valueRanges_iff {row : Row} {w : Word} :
    AgreeOn w (matchWord row) (valueRanges row) ↔ ¬(row = .wake ∧ slice w 0 0 = 0) := by
  by_cases wake : row = .wake
  · subst wake
    have agree : AgreeOn w (matchWord .wake) (valueRanges .wake) ↔ slice w 0 0 = 1 := iff_of_eq (and_true _)
    rcases slice_bit w 0 with bit | bit <;> simp [agree, bit]
  · have none : valueRanges row = [] := by cases row <;> trivial
    simp [none, AgreeOn, wake]

/-! ## The rows' words -/

/-- The lenient mask holds the bits that name the row, and I_WAKE's bit 0. -/
theorem and_lenientMask_eq_iff_classify {row : Row} {w : Word} : w &&& lenientMask row = matchWord row ↔
    classify w = .ok row ∧ ¬(row = .wake ∧ slice w 0 0 = 0) := by
  rw [and_lenientMask_eq_iff, agreeOn_valueRanges_iff, classify_eq_iff, ClassifyMeans, SelectorBits]

theorem and_mask_eq_iff {strict : Bool} {row : Row} {w : Word} :
    w &&& (if strict then strictMask row else lenientMask row) = matchWord row ↔
      w &&& lenientMask row = matchWord row ∧ (strict && hasUnused row w) = false := by
  cases strict with
  | false => simp
  | true => rw [if_pos rfl, and_strictMask_eq_iff, and_unusedMask_eq_zero_iff, Bool.true_and]

/-- A row accepts the words that steps 1 to 5 of 40_decode_core R120 let through to it. -/
theorem rowAccepts_iff {strict : Bool} {row : Row} {w : Word} : rowAccepts strict row w = true ↔
    classify w = .ok row ∧ badValue row w = false ∧ (strict && hasUnused row w) = false := by
  have parts : rowAccepts strict row w = true ↔
      w &&& (if strict then strictMask row else lenientMask row) = matchWord row ∧ ¬(row = .adc ∧ slice w 5 2 = 0) := by
    rw [rowAccepts, Bool.and_eq_true, Bool.not_eq_true', ← Bool.not_eq_true, Bool.and_eq_true, beq_iff_eq, beq_iff_eq,
      beq_iff_eq]
  rw [parts, and_mask_eq_iff, and_lenientMask_eq_iff_classify, badValue_eq_false_iff]
  tauto

/-! ## What decode answers -/

/-- When decoding gives an answer (40_decode_core R120, step by step). -/
def DecodeMeans (strict : Bool) (w : Word) : Except Reason Instr → Prop
  | .ok i => ∃ row, rowAccepts strict row w = true ∧ operands row w = i
  | .error .badOpcode => classify w = .error .badOpcode
  | .error .badSubopcode => classify w = .error .badSubopcode
  | .error .badSelector => classify w = .error .badSelector
  | .error .badValue => ∃ row, classify w = .ok row ∧ badValue row w = true
  | .error .nonzeroUnused =>
    ∃ row, classify w = .ok row ∧ badValue row w = false ∧ (strict && hasUnused row w) = true

theorem decode_of_classify_error {strict : Bool} {w : Word} {reason : Reason} (failed : classify w = .error reason) :
    decode strict w = .error reason := by
  rw [decode, failed]

theorem decode_of_classify_ok {strict : Bool} {w : Word} {row : Row} (named : classify w = .ok row) :
    decode strict w = if badValue row w then .error .badValue
      else if strict && hasUnused row w then .error .nonzeroUnused else .ok (operands row w) := by
  rw [decode, named]

theorem decode_of_rowAccepts {strict : Bool} {w : Word} {row : Row} (accepts : rowAccepts strict row w = true) :
    decode strict w = .ok (operands row w) := by
  obtain ⟨named, value, unused⟩ := rowAccepts_iff.1 accepts
  simp [decode_of_classify_ok named, value, unused]

theorem decode_means (strict : Bool) (w : Word) : DecodeMeans strict w (decode strict w) := by
  cases named : classify w with
  | error reason =>
    have possible := classify_eq_iff.1 named
    rw [decode_of_classify_error named]
    cases reason with
    | badOpcode | badSubopcode | badSelector => exact named
    | badValue | nonzeroUnused => exact possible.elim
  | ok row =>
    rw [decode_of_classify_ok named]
    split_ifs with value unused
    · exact ⟨row, named, value⟩
    · exact ⟨row, named, eq_false_of_ne_true value, unused⟩
    · exact ⟨row, rowAccepts_iff.2 ⟨named, eq_false_of_ne_true value, eq_false_of_ne_true unused⟩, rfl⟩

/-- Everything `decode` answers, and exactly when. -/
theorem decode_eq_iff {strict : Bool} {w : Word} {answer : Except Reason Instr} :
    decode strict w = answer ↔ DecodeMeans strict w answer := by
  constructor
  · rintro rfl
    exact decode_means strict w
  · intro means
    match answer, means with
    | .ok _, ⟨row, accepts, fields⟩ => rw [decode_of_rowAccepts accepts, fields]
    | .error .badOpcode, failed => exact decode_of_classify_error failed
    | .error .badSubopcode, failed => exact decode_of_classify_error failed
    | .error .badSelector, failed => exact decode_of_classify_error failed
    | .error .badValue, ⟨row, named, value⟩ => rw [decode_of_classify_ok named, if_pos value]
    | .error .nonzeroUnused, ⟨row, named, value, unused⟩ => simp [decode_of_classify_ok named, value, unused]

theorem decode_eq_ok_iff {strict : Bool} {w : Word} {i : Instr} :
    decode strict w = .ok i ↔ ∃ row, rowAccepts strict row w = true ∧ operands row w = i := decode_eq_iff

@[simp] theorem row_operands (row : Row) (w : Word) : (operands row w).row = row := by
  cases row <;> rfl

/-- Settles O4: an accepted word is one that some row accepts, and the instruction read from it is of that row. -/
theorem acceptedWordsAreRowWords : Obligations.AcceptedWordsAreRowWords := by
  refine fun strict w => ⟨⟨?accepted, ?decoded⟩, ?row⟩
  case accepted =>
    rintro ⟨i, decoded⟩
    obtain ⟨row, accepts, -⟩ := decode_eq_ok_iff.1 decoded
    exact ⟨row, accepts⟩
  case decoded => exact fun ⟨row, accepts⟩ => ⟨operands row w, decode_of_rowAccepts accepts⟩
  case row =>
    intro i decoded
    obtain ⟨row, accepts, rfl⟩ := decode_eq_ok_iff.1 decoded
    rwa [row_operands]

/-- Settles O5: a row that accepts a word is the one `classify` names. -/
theorem opcodeTableRowsDisjoint : Obligations.OpcodeTableRowsDisjoint := by
  intro strict row other w accepts otherAccepts
  obtain ⟨named, -⟩ := rowAccepts_iff.1 accepts
  obtain ⟨otherNamed, -⟩ := rowAccepts_iff.1 otherAccepts
  exact Except.ok.inj (named.symm.trans otherNamed)

end Sys2Proof.Proofs.Acceptance
end

section
/-! The failure reasons (30_encoding R105): each answer of `decode` in terms of the listed conditions. -/

namespace Sys2Proof.Proofs.Reasons

open Sys2Proof.Claims Sys2Proof.Proofs.Masks Sys2Proof.Proofs.Classification Sys2Proof.Proofs.Acceptance

section Conditions

variable {strict : Bool} {w : Word}

theorem decode_badOpcode_iff : decode strict w = .error .badOpcode ↔ BadOpcode w := by
  rw [decode_eq_iff, DecodeMeans, classify_eq_iff, ClassifyMeans]

theorem decode_badSubopcode_iff : decode strict w = .error .badSubopcode ↔ BadSubopcode w := by
  rw [decode_eq_iff, DecodeMeans, classify_eq_iff, ClassifyMeans]

theorem decode_badSelector_iff : decode strict w = .error .badSelector ↔ BadSelector w := by
  rw [decode_eq_iff, DecodeMeans, classify_eq_iff, ClassifyMeans]

theorem classify_adc_iff : classify w = .ok .adc ↔ opcode w = 5 := by
  rw [classify_eq_iff]
  exact iff_of_eq (and_true _)

theorem classify_wake_iff : classify w = .ok .wake ↔ opcode w = 9 ∧ subopcode w = 0 := by
  rw [classify_eq_iff]
  exact and_congr_right fun _ => iff_of_eq (and_true _)

theorem badValue_iff : BadValue w ↔ ∃ row, classify w = .ok row ∧ badValue row w = true := by
  simp only [badValue_eq_true_iff, and_or_left, exists_or, BadValue, ← classify_adc_iff, ← and_assoc,
    ← classify_wake_iff]
  simp

theorem decode_badValue_iff : decode strict w = .error .badValue ↔ BadValue w := by
  rw [decode_eq_iff, DecodeMeans, badValue_iff]

/-- The condition of the last reason speaks of any row the word has the fixed bits of, so it leaves out the value checks. -/
theorem decode_nonzeroUnused_iff :
    decode strict w = .error .nonzeroUnused ↔ ¬BadValue w ∧ NonzeroUnused strict w := by
  rw [decode_eq_iff, badValue_iff, NonzeroUnused]
  simp only [Ne, and_unusedMask_eq_zero_iff, Bool.not_eq_false]
  constructor
  · rintro ⟨row, named, value, unused⟩
    obtain ⟨isStrict, nonzero⟩ := Bool.and_eq_true_iff.1 unused
    refine ⟨?_, isStrict, row, and_lenientMask_eq_iff_classify.2 ⟨named, (badValue_eq_false_iff.1 value).2⟩, nonzero⟩
    rintro ⟨other, otherNamed, bad⟩
    obtain rfl : row = other := Except.ok.inj (named.symm.trans otherNamed)
    exact absurd bad (ne_true_of_eq_false value)
  · rintro ⟨noBad, isStrict, row, fixed, nonzero⟩
    obtain ⟨named, -⟩ := and_lenientMask_eq_iff_classify.1 fixed
    exact ⟨row, named, eq_false_of_ne_true fun bad => noBad ⟨row, named, bad⟩, Bool.and_eq_true_iff.2 ⟨isStrict, nonzero⟩⟩

end Conditions

/-- Settles O6: each condition is rewritten to the answer it stands for, after which the statement is that a word has one
answer. -/
theorem failureReasonIsFirstThatApplies : Obligations.FailureReasonIsFirstThatApplies := by
  intro strict w
  have unused := decode_nonzeroUnused_iff (strict := strict) (w := w)
  have accepted : ¬BadValue w ∧ ¬NonzeroUnused strict w ↔
      ¬BadValue w ∧ ¬decode strict w = .error .nonzeroUnused := by
    rw [unused]
    tauto
  rw [accepted, ← unused, ← decode_badOpcode_iff (strict := strict), ← decode_badSubopcode_iff (strict := strict),
    ← decode_badSelector_iff (strict := strict), ← decode_badValue_iff (strict := strict)]
  generalize decode strict w = answer
  cases answer with
  | ok i => simp
  | error reason => cases reason <;> simp

end Sys2Proof.Proofs.Reasons
end

section
/-! A strictly accepted word is its instruction's canonical word (30_encoding R104): the operand fields and the fixed bits
make up the whole word. -/

namespace Sys2Proof.Proofs.RoundTrip

open Sys2Proof.Claims Sys2Proof.Proofs.Masks Sys2Proof.Proofs.Classification Sys2Proof.Proofs.Acceptance

theorem place_field (w : Word) (hi lo : Nat) : place (field w hi lo) lo = slice w hi lo * 2 ^ lo := by
  rw [place, field_toNat]

/-- Reading a row's fields and placing them again gives the slices at the row's operand ranges. -/
theorem placedFields_operands (row : Row) (w : Word) :
    placedFields (operands row w) = placedSlices w (operandRanges row) := by
  cases row <;>
    simp only [operands, placedFields, place_field, operandRanges, placedSlices, Nat.add_assoc, Nat.add_zero]

/-- The canonical word of the fields read from `w` has the row's fixed bits, and those of `w` at its operands. -/
theorem encode_operands (row : Row) (w : Word) :
    encode (operands row w) = matchWord row ||| (w &&& rangesMask (operandRanges row)) := by
  have apart : matchWord row &&& (w &&& rangesMask (operandRanges row)) = 0 := by
    rw [BitVec.and_comm w, ← BitVec.and_assoc, matchWord_and_operandRanges]
    exact BitVec.zero_and
  refine BitVec.eq_of_toNat_eq ?_
  rw [encode_toNat, row_operands, placedFields_operands, toNat_or_of_and_eq_zero apart,
    and_rangesMask_toNat (apart_operandRanges row)]

/-- No bit of a word that a row accepts strictly is lost: each is fixed, unused or an operand's. -/
theorem encode_operands_of_strict {row : Row} {w : Word} (fixed : w &&& strictMask row = matchWord row) :
    encode (operands row w) = w := by
  rw [encode_operands, ← fixed, ← BitVec.and_or_distrib_left, strictMask_or_operandRanges, BitVec.and_allOnes]

theorem field_eq_zero_iff {w : Word} {hi lo : Nat} : field w hi lo = 0 ↔ slice w hi lo = 0 := by
  rw [← field_toNat, ← BitVec.toNat_inj]
  rfl

/-- The value check keeps ADC's `mux` from 0, and the unused bits of a BX row hold the target field it does not read. -/
theorem wellFormed_operands {row : Row} {w : Word} (value : badValue row w = false)
    (unused : hasUnused row w = false) : (operands row w).wellFormed = true := by
  rw [badValue_eq_false_iff] at value
  rw [hasUnused_eq_false_iff] at unused
  cases row
  case adc =>
    have mux : slice w 5 2 ≠ 0 := fun zero => value.1 ⟨rfl, zero⟩
    exact bne_iff_ne.2 (mt field_eq_zero_iff.1 mux)
  case bxr | bxzr | bxfr => simpa [operands, Instr.wellFormed] using field_eq_zero_iff.2 (unused (12, 2) (by decide))
  case bxi | bxzi | bxfi => simpa [operands, Instr.wellFormed] using field_eq_zero_iff.2 (unused (1, 0) (by decide))
  all_goals rfl

/-- Settles O3: the row that accepts the word fixes its strict mask's bits, and the rest are read and placed again. -/
theorem encodeOfDecode : Obligations.EncodeOfDecode := by
  intro w i decoded
  obtain ⟨row, accepts, rfl⟩ := decode_eq_ok_iff.1 decoded
  obtain ⟨named, value, unused⟩ := rowAccepts_iff.1 accepts
  have clean : hasUnused row w = false := by simpa using unused
  have fixed : w &&& lenientMask row = matchWord row :=
    and_lenientMask_eq_iff_classify.2 ⟨named, (badValue_eq_false_iff.1 value).2⟩
  have fixedStrict : w &&& strictMask row = matchWord row :=
    and_strictMask_eq_iff.2 ⟨fixed, and_unusedMask_eq_zero_iff.2 clean⟩
  exact ⟨wellFormed_operands value clean, encode_operands_of_strict fixedStrict⟩

end Sys2Proof.Proofs.RoundTrip
end

section
/-! Branch offsets (30_encoding R102): a sign bit and a magnitude, with two encodings of zero. -/

namespace Sys2Proof.Proofs.Offsets

open Sys2Proof.Machine

theorem offsetValue_zero_sign (mag : BitVec 7) : offsetValue 0 mag = mag.toNat := rfl

theorem offsetValue_one_sign (mag : BitVec 7) : offsetValue 1 mag = -(mag.toNat : Int) := rfl

/-- Seven bits of magnitude reach 127 on either side. -/
theorem offsetValue_bounds (sign : BitVec 1) (mag : BitVec 7) :
    -127 ≤ offsetValue sign mag ∧ offsetValue sign mag ≤ 127 := by
  have bound := mag.isLt
  rw [offsetValue]
  split_ifs <;> omega

/-- Settles O38: the value by the sign bit, its bounds, and the two zeros, which are closed terms. -/
theorem branchOffsets : Obligations.BranchOffsets :=
  ⟨fun mag => ⟨offsetValue_zero_sign mag, offsetValue_one_sign mag⟩, offsetValue_bounds, rfl, rfl, rfl⟩

end Sys2Proof.Proofs.Offsets
end

section
/-! The encoding rule of each row of the opcode table (30_encoding R104, R111): what `decode` answers for the words with
a row's fixed bits. -/

namespace Sys2Proof.Proofs.RowRules

open Sys2Proof.Claims Sys2Proof.Proofs.Masks Sys2Proof.Proofs.Acceptance Sys2Proof.Proofs.Reasons

section FixedBits

variable {row : Row} {w : Word}

/-- The lenient mask holds I_WAKE's bit 0, so of the value checks only ADC's `mux` is left. -/
theorem decode_of_fixed {strict : Bool} (fixed : w &&& lenientMask row = matchWord row)
    (mux : row = .adc → slice w 5 2 ≠ 0) :
    decode strict w = if strict && hasUnused row w then .error .nonzeroUnused else .ok (operands row w) := by
  obtain ⟨named, wake⟩ := and_lenientMask_eq_iff_classify.1 fixed
  have value : badValue row w = false := badValue_eq_false_iff.2 ⟨fun ⟨adc, zero⟩ => mux adc zero, wake⟩
  rw [decode_of_classify_ok named, value, if_neg Bool.false_ne_true]

theorem decode_lenient_of_fixed (fixed : w &&& lenientMask row = matchWord row) (mux : row = .adc → slice w 5 2 ≠ 0) :
    decode false w = .ok (operands row w) := by
  rw [decode_of_fixed fixed mux, Bool.false_and, if_neg Bool.false_ne_true]

theorem decode_strict_of_fixed (fixed : w &&& strictMask row = matchWord row) (mux : row = .adc → slice w 5 2 ≠ 0) :
    decode true w = .ok (operands row w) := by
  obtain ⟨lenient, clean⟩ := and_strictMask_eq_iff.1 fixed
  rw [decode_of_fixed lenient mux, and_unusedMask_eq_zero_iff.1 clean, Bool.and_false, if_neg Bool.false_ne_true]

/-- A word that leaves the row by the strict mask alone has an unused bit set. -/
theorem decode_strict_of_unused (fixed : w &&& lenientMask row = matchWord row)
    (notStrict : w &&& strictMask row ≠ matchWord row) (mux : row = .adc → slice w 5 2 ≠ 0) :
    decode true w = .error .nonzeroUnused := by
  have unused : hasUnused row w = true := by
    by_contra clean
    exact notStrict (and_strictMask_eq_iff.2 ⟨fixed, and_unusedMask_eq_zero_iff.2 (eq_false_of_ne_true clean)⟩)
  rw [decode_of_fixed fixed mux, unused, Bool.true_and, if_pos rfl]

/-- Every row but I_ADC, whose `mux` no mask fixes, has its encoding rule from the opcode table. -/
theorem rowRule (notAdc : row ≠ .adc) : RowRule (matchWord row) (strictMask row) (lenientMask row) (operands row) :=
  ⟨fun _ fixed => decode_strict_of_fixed fixed (absurd · notAdc),
    fun _ fixed => decode_lenient_of_fixed fixed (absurd · notAdc),
    fun _ fixed notStrict => decode_strict_of_unused fixed notStrict (absurd · notAdc)⟩

/-- In a row with no unused bit the policy makes no difference. -/
theorem fullRowRule (notAdc : row ≠ .adc) (full : unusedRanges row = []) :
    FullRowRule (matchWord row) (lenientMask row) (operands row) := by
  intro strict w fixed
  have clean : hasUnused row w = false := by rw [hasUnused, full, List.any_nil]
  rw [decode_of_fixed fixed (absurd · notAdc), clean, Bool.and_false, if_neg Bool.false_ne_true]

end FixedBits

/-- Settles O8: the same words have no unused bit set by either description, so the same words have one set. -/
theorem unusedRangesAreTheMasks : Obligations.UnusedRangesAreTheMasks := by
  intro row w
  rw [Ne, and_unusedMask_eq_zero_iff, Bool.not_eq_false]

/-- Settles O7: the three opcodes are the condition of BAD_OPCODE; the all-ones word has opcode 15 with another
sub-opcode. -/
theorem unassignedOpcodesFail : Obligations.UnassignedOpcodesFail := by
  have allOnes : opcode 0xFFFFFFFF = 15 ∧ slice 0xFFFFFFFF 27 24 ≠ 0 := by decide
  exact ⟨fun _ _ unassigned => decode_badOpcode_iff.2 unassigned,
    fun _ => decode_badOpcode_iff.2 (.inl (slice_zero 31 28)),
    fun _ => decode_badSubopcode_iff.2 (.inr (.inr (.inr (.inr allOnes))))⟩

end Sys2Proof.Proofs.RowRules
end

section
/-! What every meaning does to U1's outputs (40_decode_core R121) and what it leaves unchanged (60_exceptions R288). -/

namespace Sys2Proof.Proofs.Meanings

open Sys2Proof.Machine Sys2Proof.Safety Sys2Proof.Claims

theorem onlyU1Changed_driveOk (s : State) (d : Decoded) (x : Text) : OnlyU1Changed s (s.driveOk d x) := by
  simp [OnlyU1Changed, State.driveOk]

theorem readsAnswerPorts_u1Ok (w : Word) (d : Decoded) (x : Text) : ReadsAnswerPorts (u1Ok w d x) :=
  have answers {α : Type} (value : α) := U1Out.whenOk_ok w d x value
  ⟨answers _, answers _, answers _, answers _, answers _, answers _⟩

theorem u1Legal_u1Ok (w : Word) (d : Decoded) (x : Text) : U1Legal (u1Ok w d x) :=
  .inl ⟨rfl, rfl, rfl, fun _ => u1Ok_selector, fun _ => u1Ok_mode, rfl, rfl⟩

/-- Tag 16 is LABEL's alone (10_state R32). -/
theorem slotsOf_eq (d : Decoded) : slotsOf d = if variantTag d = 16 then 0 else 1 := by
  cases d <;> rfl

theorem pseudoOf_eq (d : Decoded) : pseudoOf d = if variantTag d = 16 then 1 else 0 := by
  cases d <;> rfl

/-- Every instruction drives the outputs its record has by the tables of 10_state R32, with its template as the text. -/
theorem drives (i : Instr) (s : State) {d : Decoded} (fields : record s.ports.w i = d) :
    Drives i s (variantTag d) (selectorOf d) (modeOf d) d (template build.periphBase i) := by
  subst fields
  exact ⟨_, exec_eq_driveOk i s, rfl, rfl, rfl, fun _ => u1Ok_selector, fun _ => u1Ok_mode, rfl, slotsOf_eq _,
    pseudoOf_eq _, rfl, readsAnswerPorts_u1Ok .., onlyU1Changed_driveOk ..⟩

/-- Settles O27: a meaning drives a success on U1's ports, which is legal, and keeps the other units' legal ports. -/
theorem meaningsKeepPortsLegal : Obligations.MeaningsKeepPortsLegal := by
  intro i s ⟨_, quantize, select, u3⟩
  exact ⟨_, exec_eq_driveOk i s, ⟨u1Legal_u1Ok .., quantize, select, u3⟩, onlyU1Changed_driveOk ..⟩

end Sys2Proof.Proofs.Meanings
end

section
/-! The rows of 40_decode_core sections 2 to 6, family by family: each row's encoding rule from the opcode table, the
words written out there, and the outputs of each instruction. -/

namespace Sys2Proof.Proofs.CoreRows

open Sys2Proof.Proofs.Acceptance Sys2Proof.Proofs.Reasons Sys2Proof.Proofs.RowRules Sys2Proof.Proofs.Meanings

/-- Settles O9: I_WR_REG has no unused bit, and each rendering shows the address of R205 for its operands. -/
theorem peripheralRows : Obligations.PeripheralRows := by
  refine ⟨?wrReg, ?rdReg, rfl, rfl, rfl, rfl, ?drivesWrReg, ?drivesRdReg⟩
  case wrReg => exact fullRowRule (row := .wrReg) (by decide) rfl
  case rdReg => exact rowRule (row := .rdReg) (by decide)
  case drivesWrReg => exact fun s _ _ _ _ _ => drives _ s rfl
  case drivesRdReg => exact fun s _ _ _ _ => drives _ s rfl

/-- Settles O10: the record reports `data` whatever `rw` is, and the row has no value check. -/
theorem i2cAndDelayRows : Obligations.I2cAndDelayRows := by
  refine ⟨?i2cRw, ?delay, rfl, rfl, ?drivesI2cRw, ?drivesDelay⟩
  case i2cRw => exact rowRule (row := .i2cRw) (by decide)
  case delay => exact rowRule (row := .delay) (by decide)
  case drivesI2cRw => exact fun s _ _ _ _ _ _ => drives _ s rfl
  case drivesDelay => exact fun s _ => drives _ s rfl

/-- The opcode alone names I_ADC, and BAD_VALUE comes before NONZERO_UNUSED (40_decode_core R126). -/
theorem decode_adc_of_mux_zero {strict : Bool} {w : Word} (fixed : w &&& lenientMask .adc = matchWord .adc)
    (zero : slice w 5 2 = 0) : decode strict w = .error .badValue := by
  obtain ⟨named, -⟩ := and_lenientMask_eq_iff_classify.1 fixed
  exact decode_badValue_iff.2 (.inl ⟨classify_adc_iff.1 named, zero⟩)

/-- Settles O11: the rule of I_ADC is the rule of any row, split by whether `mux` is 0. -/
theorem adcAndTsensRows : Obligations.AdcAndTsensRows := by
  refine ⟨?adcStrict, ?adcLenient, ?adcUnused, ?adcMuxZero, ?tsens, rfl, rfl, rfl, ?drivesAdc, ?drivesTsens⟩
  case adcStrict => exact fun _ fixed mux => decode_strict_of_fixed (row := .adc) fixed fun _ => mux
  case adcLenient => exact fun _ fixed mux => decode_lenient_of_fixed (row := .adc) fixed fun _ => mux
  case adcUnused =>
    exact fun _ fixed mux notStrict => decode_strict_of_unused (row := .adc) fixed notStrict fun _ => mux
  case adcMuxZero => exact fun _ _ => decode_adc_of_mux_zero
  case tsens => exact rowRule (row := .tsens) (by decide)
  case drivesAdc => exact fun s _ _ _ => drives _ s rfl
  case drivesTsens => exact fun s _ _ => drives _ s rfl

/-- Settles O12: of opcode 6 only sub-opcode 4 is assigned, while opcode 13 has no sub-opcode. -/
theorem loadAndStoreRows : Obligations.LoadAndStoreRows := by
  refine ⟨?st, ?otherSubopcode, ?ld, rfl, rfl, rfl, rfl, ?drivesSt, ?drivesLd⟩
  case st => exact rowRule (row := .st) (by decide)
  case otherSubopcode => exact fun _ _ op sub => decode_badSubopcode_iff.2 (.inl ⟨op, sub⟩)
  case ld => exact rowRule (row := .ld) (by decide)
  case drivesSt => exact fun s _ _ _ => drives _ s rfl
  case drivesLd => exact fun s _ _ _ => drives _ s rfl

/-- HALT has no operand, so its canonical word is the only word it decodes from strictly (40_decode_core R130). -/
theorem decode_strict_eq_halt_iff {w : Word} : decode true w = .ok .halt ↔ w = 0xB0000000 := by
  constructor
  · intro decoded
    obtain ⟨-, canonical⟩ := RoundTrip.encodeOfDecode w .halt decoded
    exact canonical.symm
  · rintro rfl
    rfl

/-- Settles O13: I_WAKE's rule fixes bit 0, and END with that bit 0 is the other half of the BAD_VALUE condition. The
witness for its `cycle_sel` is the free value of the record. -/
theorem endHaltAndLabelRows : Obligations.EndHaltAndLabelRows := by
  refine ⟨?halt, ?wake, ?endBitZero, ?sleep, ?label, ?otherSubopcode, ?haltWord, rfl, rfl, rfl, rfl, rfl, ?drivesHalt,
    ?drivesWake, ?drivesSleep, ?drivesLabel⟩
  case halt => exact rowRule (row := .halt) (by decide)
  case wake => exact rowRule (row := .wake) (by decide)
  case endBitZero => exact fun _ _ op sub zero => decode_badValue_iff.2 (.inr ⟨op, sub, zero⟩)
  case sleep => exact rowRule (row := .sleepCycleSel) (by decide)
  case label => exact rowRule (row := .label) (by decide)
  case otherSubopcode =>
    exact fun _ _ op sub => decode_badSubopcode_iff.2 (.inr (.inr (.inr (.inr ⟨op, sub⟩))))
  case haltWord => exact fun _ => decode_strict_eq_halt_iff
  case drivesHalt => exact fun s => drives _ s rfl
  case drivesWake => exact fun s => ⟨Config.freeCycleSel s.ports.w, drives _ s rfl⟩
  case drivesSleep => exact fun s _ => drives _ s rfl
  case drivesLabel => exact fun s _ => drives _ s rfl

end Sys2Proof.Proofs.CoreRows
end

section
/-! The ALU rows of 41_decode_alu_branch section 1, family by family: each row's encoding rule from the opcode table, the
words written out there, and the outputs of each instruction. -/

namespace Sys2Proof.Proofs.AluRows

open Sys2Proof.Proofs.RowRules Sys2Proof.Proofs.Meanings

/-- Settles O14: the seven rows have one format and one template, so MOV's rule, record and rendering keep `treg` too. -/
theorem aluRegRows : Obligations.AluRegRows := by
  refine ⟨?addr, ?subr, ?andr, ?orr, ?movr, ?lshr, ?rshr, ?words, ?outputs⟩
  case addr => exact rowRule (row := .addr) (by decide)
  case subr => exact rowRule (row := .subr) (by decide)
  case andr => exact rowRule (row := .andr) (by decide)
  case orr => exact rowRule (row := .orr) (by decide)
  case movr => exact rowRule (row := .movr) (by decide)
  case lshr => exact rowRule (row := .lshr) (by decide)
  case rshr => exact rowRule (row := .rshr) (by decide)
  case words => exact ⟨rfl, rfl, rfl, rfl, rfl, rfl, rfl⟩
  case outputs =>
    exact fun s _ _ _ => ⟨drives _ s rfl, drives _ s rfl, drives _ s rfl, drives _ s rfl, drives _ s rfl, drives _ s rfl,
      drives _ s rfl⟩

/-- Settles O15: `imm` is a field of its own 16 bits, read and rendered as the unsigned number it is. -/
theorem aluImmRows : Obligations.AluImmRows := by
  refine ⟨?addi, ?subi, ?andi, ?ori, ?movi, ?lshi, ?rshi, ?words, rfl, ?outputs⟩
  case addi => exact rowRule (row := .addi) (by decide)
  case subi => exact rowRule (row := .subi) (by decide)
  case andi => exact rowRule (row := .andi) (by decide)
  case ori => exact rowRule (row := .ori) (by decide)
  case movi => exact rowRule (row := .movi) (by decide)
  case lshi => exact rowRule (row := .lshi) (by decide)
  case rshi => exact rowRule (row := .rshi) (by decide)
  case words => exact ⟨rfl, rfl, rfl, rfl, rfl, rfl, rfl⟩
  case outputs =>
    exact fun s _ _ _ => ⟨drives _ s rfl, drives _ s rfl, drives _ s rfl, drives _ s rfl, drives _ s rfl, drives _ s rfl,
      drives _ s rfl⟩

/-- Settles O16: RST has the format and the template of INC and DEC, `imm` included (90 C4). -/
theorem aluStageRows : Obligations.AluStageRows := by
  refine ⟨?stageInc, ?stageDec, ?stageRst, ?words, ?outputs⟩
  case stageInc => exact rowRule (row := .stageInc) (by decide)
  case stageDec => exact rowRule (row := .stageDec) (by decide)
  case stageRst => exact rowRule (row := .stageRst) (by decide)
  case words => exact ⟨rfl, rfl, rfl, rfl⟩
  case outputs => exact fun s _ => ⟨drives _ s rfl, drives _ s rfl, drives _ s rfl⟩

end Sys2Proof.Proofs.AluRows
end

section
/-! The branch rows of 41_decode_alu_branch section 2, family by family: each row's encoding rule from the opcode table, the
selectors no row has, the words written out there, and the outputs of each instruction. -/

namespace Sys2Proof.Proofs.BranchRows

open Sys2Proof.Machine Sys2Proof.Claims Sys2Proof.Proofs.Classification Sys2Proof.Proofs.Acceptance
  Sys2Proof.Proofs.Reasons Sys2Proof.Proofs.RowRules Sys2Proof.Proofs.Meanings

/-- Settles O17: the target field a mode leaves unused is among the row's unused bits, so the strict rule fixes it at 0 while
the record reports it under either policy; the template takes the other field alone. -/
theorem branchIndirectRows : Obligations.BranchIndirectRows := by
  refine ⟨?bxr, ?bxi, ?bxzr, ?bxzi, ?bxfr, ?bxfi, ?otherType, rfl, rfl, rfl, rfl, rfl, rfl, rfl, rfl, rfl, ?outputs⟩
  case bxr => exact rowRule (row := .bxr) (by decide)
  case bxi => exact rowRule (row := .bxi) (by decide)
  case bxzr => exact rowRule (row := .bxzr) (by decide)
  case bxzi => exact rowRule (row := .bxzi) (by decide)
  case bxfr => exact rowRule (row := .bxfr) (by decide)
  case bxfi => exact rowRule (row := .bxfi) (by decide)
  case otherType => exact fun _ _ op sub type => decode_badSelector_iff.2 (.inr (.inr (.inl ⟨op, sub, type⟩)))
  case outputs =>
    exact fun s _ _ => ⟨drives _ s rfl, drives _ s rfl, drives _ s rfl, drives _ s rfl, drives _ s rfl, drives _ s rfl⟩

/-! ## Relative branches -/

/-- U1 reports the whole record, so instructions with different records have different outcomes. -/
theorem record_eq_of_exec_eq {i j : Instr} {s : State} (same : exec i s = exec j s) :
    record s.ports.w i = record s.ports.w j := by
  rw [exec_eq_driveOk, exec_eq_driveOk] at same
  exact congrArg (fun t : State => t.out.u1.fields) (Host.Outcome.next.inj same)

/-- The opcode and the sub-opcode of a word lie next to each other (30_encoding R81, R82). -/
theorem opcode_and_subopcode (w : Word) : slice w 31 25 = 8 * opcode w + subopcode w := by
  simp only [opcode, subopcode, slice]
  omega

/-- Bit 16 of a sub-opcode 1 word names I_BL or I_BGE, and neither row has a value check or an unused bit. -/
theorem decode_relative_branch (strict : Bool) {w : Word} (op : opcode w = 8) (sub : subopcode w = 1) :
    ∃ i, decode strict w = .ok i := by
  rcases slice_bit w 16 with cmp | cmp
  · have fixed := and_lenientMask_eq_iff_classify.2 ⟨classify_bl op sub cmp, by simp⟩
    exact ⟨_, fullRowRule (by decide) rfl strict w fixed⟩
  · have fixed := and_lenientMask_eq_iff_classify.2 ⟨classify_bge op sub cmp, by simp⟩
    exact ⟨_, fullRowRule (by decide) rfl strict w fixed⟩

/-- Settles O18: no sub-opcode 1 word fails, and the two zero offsets differ in the sign bit of the record. -/
theorem branchRelativeRows : Obligations.BranchRelativeRows := by
  refine ⟨?bl, ?bge, ?accepted, rfl, rfl, rfl, rfl, ?twoZeros, ?outputs⟩
  case bl => exact fullRowRule (row := .bl) (by decide) rfl
  case bge => exact fullRowRule (row := .bge) (by decide) rfl
  case accepted =>
    intro strict w codes
    have subBound : subopcode w < 8 := slice_lt w 27 25
    have adjacent := opcode_and_subopcode w
    exact decode_relative_branch strict (by omega) (by omega)
  case twoZeros =>
    intro s imm same
    simpa [record] using record_eq_of_exec_eq same
  case outputs => exact fun s _ _ _ => ⟨drives _ s rfl, drives _ s rfl⟩

/-- Settles O19: the three comparisons share a format, cmp 3 is the last BAD_SELECTOR condition, and the two zero offsets
differ as in a relative branch. -/
theorem branchRelativeMultiRows : Obligations.BranchRelativeMultiRows := by
  refine ⟨?jumpsLt, ?jumpsGe, ?jumpsLe, ?otherCmp, rfl, rfl, rfl, rfl, rfl, ?twoZeros, ?outputs⟩
  case jumpsLt => exact rowRule (row := .jumpsLt) (by decide)
  case jumpsGe => exact rowRule (row := .jumpsGe) (by decide)
  case jumpsLe => exact rowRule (row := .jumpsLe) (by decide)
  case otherCmp => exact fun _ _ op sub cmp => decode_badSelector_iff.2 (.inr (.inr (.inr ⟨op, sub, cmp⟩)))
  case twoZeros =>
    intro s imm same
    simpa [record] using record_eq_of_exec_eq same
  case outputs => exact fun s _ _ _ => ⟨drives _ s rfl, drives _ s rfl, drives _ s rfl⟩

end Sys2Proof.Proofs.BranchRows
end

section
/-! The canonical word of an instruction (42_render R211): its fields are read back, its fixed bits name its row, and its
unused bits are 0. -/

namespace Sys2Proof.Proofs.CanonicalWords

open Sys2Proof.Machine Sys2Proof.Claims Sys2Proof.Proofs.Masks Sys2Proof.Proofs.Acceptance Sys2Proof.Proofs.RoundTrip
  Sys2Proof.Proofs.RowRules

/-! ## Reading the fields back -/

theorem field_eq_of_slice {w : Word} {hi lo : Nat} {v : BitVec (hi - lo + 1)} (same : slice w hi lo = v.toNat) :
    field w hi lo = v := by
  rw [field, same, BitVec.ofNat_toNat, BitVec.setWidth_eq]

/-- Field by field, the slice of the number `encode_toNat` gives is the field's value: linear arithmetic on place
values. -/
theorem operands_encode (i : Instr) : operands i.row (encode i) = i := by
  cases i <;> simp only [Instr.row, operands]
  all_goals congr 1
  all_goals
    refine field_eq_of_slice ?_
    rw [slice, encode_toNat]
    simp only [Instr.row, matchWord, placedFields, place, BitVec.reduceToNat]
    omega

theorem encode_eq_or (i : Instr) :
    encode i = matchWord i.row ||| (encode i &&& rangesMask (operandRanges i.row)) :=
  calc encode i = encode (operands i.row (encode i)) := by rw [operands_encode]
    _ = matchWord i.row ||| (encode i &&& rangesMask (operandRanges i.row)) := encode_operands ..

/-! ## The bits outside the operands -/

/-- The operand ranges a rendering does not show: those the format counts as unused, a BX row's other target field
(92 D9). -/
def hiddenRanges (row : Row) : List (Nat × Nat) := (operandRanges row).filter (· ∈ unusedRanges row)

theorem operandRanges_and_lenientMask (row : Row) : rangesMask (operandRanges row) &&& lenientMask row = 0 := by
  cases row <;> decide

theorem operandRanges_and_unusedMask (row : Row) :
    rangesMask (operandRanges row) &&& unusedMask row = rangesMask (hiddenRanges row) := by
  cases row <;> decide

/-- What a mask leaves of a canonical word: bits of the match and bits of the operands. -/
theorem encode_and (i : Instr) (m : Word) :
    encode i &&& m = (matchWord i.row &&& m) ||| (encode i &&& (rangesMask (operandRanges i.row) &&& m)) :=
  calc encode i &&& m
      = (matchWord i.row ||| (encode i &&& rangesMask (operandRanges i.row))) &&& m := by rw [← encode_eq_or]
    _ = (matchWord i.row &&& m) ||| (encode i &&& (rangesMask (operandRanges i.row) &&& m)) := by
        rw [BitVec.and_or_distrib_right, BitVec.and_assoc]

theorem encode_and_lenientMask (i : Instr) : encode i &&& lenientMask i.row = matchWord i.row := by
  rw [encode_and, matchWord_and_lenientMask, operandRanges_and_lenientMask]
  simp

theorem encode_and_unusedMask (i : Instr) :
    encode i &&& unusedMask i.row = encode i &&& rangesMask (hiddenRanges i.row) := by
  rw [encode_and, matchWord_and_unusedMask, operandRanges_and_unusedMask]
  simp

/-! ## Well-formed fields -/

/-- Fields read from a word are well formed only where the hidden ones are 0. -/
theorem hiddenRanges_of_wellFormed {row : Row} {w : Word} (wf : (operands row w).wellFormed = true) :
    ∀ r ∈ hiddenRanges row, slice w r.1 r.2 = 0 := by
  cases row
  case bxr | bxzr | bxfr | bxi | bxzi | bxfi =>
    exact List.forall_mem_singleton.2 (field_eq_zero_iff.1 (beq_iff_eq.1 wf))
  all_goals exact fun _ hidden => absurd hidden List.not_mem_nil

theorem mux_of_wellFormed {row : Row} {w : Word} (wf : (operands row w).wellFormed = true) (adc : row = .adc) :
    slice w 5 2 ≠ 0 := by
  subst adc
  exact mt field_eq_zero_iff.2 (bne_iff_ne.1 wf)

theorem hasUnused_encode {i : Instr} (wf : i.wellFormed = true) : hasUnused i.row (encode i) = false := by
  have hidden : ∀ r ∈ hiddenRanges i.row, slice (encode i) r.1 r.2 = 0 :=
    hiddenRanges_of_wellFormed (by rwa [operands_encode])
  have zero : 0 &&& rangesMask (hiddenRanges i.row) = 0 := BitVec.zero_and
  rw [← and_unusedMask_eq_zero_iff, encode_and_unusedMask, ← zero, and_rangesMask_eq_iff]
  exact agreeOn_zero_iff.2 hidden

/-- Decoding undoes encoding under either policy. -/
theorem decode_encode {i : Instr} (strict : Bool) (wf : i.wellFormed = true) : decode strict (encode i) = .ok i := by
  have mux : i.row = .adc → slice (encode i) 5 2 ≠ 0 := mux_of_wellFormed (by rwa [operands_encode])
  rw [decode_of_fixed (encode_and_lenientMask i) mux, hasUnused_encode wf, Bool.and_false, if_neg Bool.false_ne_true,
    operands_encode]

theorem render_of_decode_ok {p : Params} {w : Word} {i : Instr} (decoded : decode p.unusedBitsStrict w = .ok i) :
    render p w = template p.periphBase i := by
  rw [render, decoded]

theorem render_of_decode_error {p : Params} {w : Word} {reason : Reason}
    (failed : decode p.unusedBitsStrict w = .error reason) : render p w = fallback w := by
  rw [render, failed]

/-- Settles O2: the canonical word decodes to its instruction, so its rendering is that instruction's template. -/
theorem decodeOfEncode : Obligations.DecodeOfEncode := by
  intro p i wf
  have decoded := decode_encode p.unusedBitsStrict wf
  exact ⟨decoded, render_of_decode_ok decoded⟩

end Sys2Proof.Proofs.CanonicalWords
end

section
/-! Number forms (42_render R202 to R204, R208): the digits written stand for the number, and in which characters. -/

namespace Sys2Proof.Proofs.Numerals

open Sys2Proof.Machine Sys2Proof.Claims Sys2Proof.Proofs.CanonicalWords

/-! ## Single digits -/

theorem digitValue_digitChar {d : Nat} (small : d < 16) : digitValue (Nat.digitChar d) = d := by
  revert d
  decide

theorem isHexDigit_digitChar {d : Nat} (small : d < 16) : IsHexDigit (Nat.digitChar d) := by
  revert d
  unfold IsHexDigit
  decide

theorem isDecDigit_digitChar {d : Nat} (small : d < 10) : IsDecDigit (Nat.digitChar d) := by
  revert d
  unfold IsDecDigit
  decide

theorem digitsValue_append_singleton (base : Nat) (digits : Text) (c : Char) :
    digitsValue base (digits ++ [c]) = digitsValue base digits * base + digitValue c := by
  simp [digitsValue]

/-! ## Numerals -/

/-- The model's numeral is the library's, which needs no fuel. -/
theorem numeralFuel_eq_toDigits {base : Nat} (two : 1 < base) {fuel n : Nat} (enough : n < fuel) :
    numeralFuel base fuel n = Nat.toDigits base n := by
  induction fuel generalizing n with
  | zero => exact absurd enough (Nat.not_lt_zero n)
  | succ fuel ih =>
    rw [numeralFuel, Nat.toDigits_eq_if two]
    split_ifs with small
    · rfl
    · have smaller : n / base < n := Nat.div_lt_self (by omega) two
      rw [ih (by omega)]

theorem numeral_of_lt {base n : Nat} (small : n < base) : numeral base n = [Nat.digitChar n] := by
  rw [numeral, numeralFuel, if_pos small]

theorem numeral_of_le {base n : Nat} (two : 1 < base) (large : base ≤ n) :
    numeral base n = numeral base (n / base) ++ [Nat.digitChar (n % base)] := by
  simp only [numeral, numeralFuel_eq_toDigits two (Nat.lt_succ_self _)]
  exact Nat.toDigits_of_base_le two large

/-- Induction along the digits of a number. -/
theorem numeral_induction {base : Nat} (two : 1 < base) {P : Nat → Text → Prop}
    (digit : ∀ n < base, P n [Nat.digitChar n])
    (more : ∀ n digits, 0 < n → P n digits → ∀ d < base, P (n * base + d) (digits ++ [Nat.digitChar d]))
    (n : Nat) : P n (numeral base n) := by
  induction n using Nat.strong_induction_on with
  | _ n ih =>
    by_cases small : n < base
    · rw [numeral_of_lt small]
      exact digit n small
    · have quotient : 0 < n / base := Nat.div_pos (not_lt.1 small) (by omega)
      have step := more (n / base) _ quotient (ih _ (Nat.div_lt_self (by omega) two)) (n % base)
        (Nat.mod_lt n (by omega))
      rwa [Nat.div_add_mod', ← numeral_of_le two (not_lt.1 small)] at step

theorem digitsValue_numeral {base : Nat} (two : 1 < base) (sixteen : base ≤ 16) (n : Nat) :
    digitsValue base (numeral base n) = n := by
  refine numeral_induction (P := fun n digits => digitsValue base digits = n) two ?_ ?_ n
  · intro n small
    simp [digitsValue, digitValue_digitChar (small.trans_le sixteen)]
  · intro n digits _ value d small
    rw [digitsValue_append_singleton, value, digitValue_digitChar (small.trans_le sixteen)]

/-- Each character of a numeral is a digit below the base. -/
theorem forall_mem_numeral {base : Nat} (two : 1 < base) {P : Char → Prop} (digit : ∀ d < base, P (Nat.digitChar d))
    (n : Nat) : ∀ c ∈ numeral base n, P c := by
  refine numeral_induction (P := fun _ digits => ∀ c ∈ digits, P c) two ?_ ?_ n
  · exact fun n small => List.forall_mem_singleton.2 (digit n small)
  · exact fun n digits _ all d small => List.forall_mem_append.2 ⟨all, List.forall_mem_singleton.2 (digit d small)⟩

/-- A numeral has a first digit, which is 0 for zero alone. -/
theorem numeral_eq_cons {base : Nat} (two : 1 < base) (n : Nat) :
    ∃ first rest, numeral base n = first :: rest ∧ (first = '0' → n = 0) := by
  refine numeral_induction (P := fun n digits => ∃ first rest, digits = first :: rest ∧ (first = '0' → n = 0)) two ?_ ?_ n
  · exact fun n _ => ⟨_, _, rfl, Nat.digitChar_eq_zero.1⟩
  · rintro n _ positive ⟨first, rest, rfl, zero⟩ d _
    exact ⟨first, rest ++ [Nat.digitChar d], rfl, fun isZero => absurd (zero isZero) positive.ne'⟩

theorem numeral_ne_nil {base : Nat} (two : 1 < base) (n : Nat) : numeral base n ≠ [] := by
  obtain ⟨first, rest, digits, -⟩ := numeral_eq_cons two n
  simp [digits]

/-- No leading zero. -/
theorem numeral_of_head?_zero {base n : Nat} (two : 1 < base) (head : (numeral base n).head? = some '0') :
    numeral base n = ['0'] := by
  obtain ⟨first, rest, digits, zero⟩ := numeral_eq_cons two n
  rw [digits, List.head?_cons, Option.some_inj] at head
  rw [zero head, numeral_of_lt (by omega)]
  rfl

theorem numeral_inj {base m n : Nat} (two : 1 < base) (sixteen : base ≤ 16) :
    numeral base m = numeral base n ↔ m = n := by
  refine ⟨fun same => ?_, congrArg _⟩
  rw [← digitsValue_numeral two sixteen m, same, digitsValue_numeral two sixteen]

/-! ## The forms of R202 to R204 -/

theorem hex_eq (n : Nat) : hex n = '0' :: 'x' :: numeral 16 n := rfl

theorem off_zero_sign (mag : BitVec 7) : off 0 mag = dec mag.toNat := rfl

theorem off_one_sign (mag : BitVec 7) : off 1 mag = '-' :: dec mag.toNat := rfl

/-- Settles O30: decimal and hexadecimal forms are numerals, and the register and offset forms are built from decimal
ones. -/
theorem numberForms : Obligations.NumberForms := by
  refine ⟨fun n => ?decimal, fun n => ⟨numeral 16 n, hex_eq n, ?hexadecimal⟩, fun _ => rfl, off_zero_sign, off_one_sign⟩
  case decimal =>
    have two : 1 < 10 := by decide
    exact ⟨digitsValue_numeral two (by decide) n, forall_mem_numeral two (fun _ => isDecDigit_digitChar) n,
      numeral_ne_nil two n, numeral_of_head?_zero two⟩
  case hexadecimal =>
    have two : 1 < 16 := by decide
    exact ⟨digitsValue_numeral two le_rfl n, forall_mem_numeral two (fun _ => isHexDigit_digitChar) n,
      numeral_ne_nil two n, numeral_of_head?_zero two⟩

/-! ## The fallback (42_render R208) -/

theorem isHexDigit_of_mem_hex8 (w : Word) : ∀ c ∈ hex8 w, IsHexDigit c := by
  intro c digit
  obtain ⟨lo, -, rfl⟩ := List.mem_map.1 digit
  exact isHexDigit_digitChar (Nat.mod_lt _ (by decide))

/-- The eight digits of a word are its nibbles, highest first. -/
theorem digitsValue_hex8 (w : Word) : digitsValue 16 (hex8 w) = w.toNat := by
  have nibble (lo : Nat) : digitValue (Nat.digitChar (w.toNat / 2 ^ lo % 16)) = w.toNat / 2 ^ lo % 16 :=
    digitValue_digitChar (Nat.mod_lt _ (by decide))
  simp only [digitsValue, hex8, List.map_cons, List.map_nil, List.foldl_cons, List.foldl_nil, nibble]
  omega

theorem fallback_inj {w k : Word} (same : fallback w = fallback k) : w = k := by
  have digits : hex8 w = hex8 k := by simpa [fallback] using same
  refine BitVec.eq_of_toNat_eq ?_
  rw [← digitsValue_hex8, digits, digitsValue_hex8]

/-- Settles O31: a failing word renders as its fallback, whose digits are `hex8`. -/
theorem fallbackNamesItsWord : Obligations.FallbackNamesItsWord := by
  intro p w reason failed
  exact ⟨hex8 w, render_of_decode_error failed, rfl, isHexDigit_of_mem_hex8 w, digitsValue_hex8 w⟩

end Sys2Proof.Proofs.Numerals
end

section
/-! Peripheral register addresses (42_render R205, R210): exact sums, from which select and register are recovered. -/

namespace Sys2Proof.Proofs.Addresses

open Sys2Proof.Machine Sys2Proof.Proofs.Scope

theorem periphAddress_mod_four {base : BitVec 2 → Word} (aligned : ∀ i, (base i).toNat % 4 = 0) (periph : BitVec 2)
    (addr : BitVec 8) : periphAddress base periph addr % 4 = 0 := by
  have := aligned periph
  rw [periphAddress]
  omega

/-- Select and register are recovered from the address, as no address lies in two regions (42_render R210). -/
theorem periphAddress_inj {base : BitVec 2 → Word} (disjoint : RegionsDisjoint base) {p q : BitVec 2}
    {a b : BitVec 8} :
    periphAddress base p a = periphAddress base q b ↔ p = q ∧ a = b := by
  constructor
  · intro same
    rw [periphAddress, periphAddress] at same
    obtain rfl : p = q := by
      by_contra distinct
      have := disjoint p q distinct
      omega
    exact ⟨rfl, BitVec.eq_of_toNat_eq (by omega)⟩
  · rintro ⟨rfl, rfl⟩
    rfl

/-- Settles O37: the default bases are 0x400 apart from 0x3FF48000 on, and `addr` reaches 255. -/
theorem peripheralAddresses : Obligations.PeripheralAddresses := by
  refine ⟨fun _ _ _ => rfl, fun _ periph addr aligned => periphAddress_mod_four aligned periph addr, ?defaults⟩
  intro periph addr
  have base : build.periphBase periph = defaultPeriphBase periph := rfl
  have bounds := defaultPeriphBase_toNat periph
  rw [periphAddress, base, bounds]
  omega

end Sys2Proof.Proofs.Addresses
end

section
/-! Templates (42_render R207): every rendering of an accepted word is a call of its row's mnemonic on texts of the fields
it shows, and those texts determine the fields. -/

namespace Sys2Proof.Proofs.Templates

open Sys2Proof.Machine Sys2Proof.Claims Sys2Proof.Proofs.Masks Sys2Proof.Proofs.CanonicalWords Sys2Proof.Proofs.Numerals
  Sys2Proof.Proofs.Addresses

/-! ## Mnemonics and arguments, row by row -/

/-- The mnemonic of a row (42_render R206, R207). -/
def mnemonic : Row → String
  | .wrReg => "I_WR_REG" | .rdReg => "I_RD_REG" | .i2cRw => "I_I2C_RW" | .delay => "I_DELAY" | .adc => "I_ADC"
  | .st => "I_ST" | .ld => "I_LD"
  | .addr => "I_ADDR" | .subr => "I_SUBR" | .andr => "I_ANDR" | .orr => "I_ORR" | .movr => "I_MOVR" | .lshr => "I_LSHR"
  | .rshr => "I_RSHR"
  | .addi => "I_ADDI" | .subi => "I_SUBI" | .andi => "I_ANDI" | .ori => "I_ORI" | .movi => "I_MOVI" | .lshi => "I_LSHI"
  | .rshi => "I_RSHI"
  | .stageInc => "I_STAGE_INC" | .stageDec => "I_STAGE_DEC" | .stageRst => "I_STAGE_RST"
  | .bxr => "I_BXR" | .bxi => "I_BXI" | .bxzr => "I_BXZR" | .bxzi => "I_BXZI" | .bxfr => "I_BXFR" | .bxfi => "I_BXFI"
  | .bl => "I_BL" | .bge => "I_BGE"
  | .jumpsLt | .jumpsGe | .jumpsLe => "I_JUMPS"
  | .wake => "I_WAKE" | .sleepCycleSel => "I_SLEEP_CYCLE_SEL" | .tsens => "I_TSENS" | .halt => "I_HALT"
  | .label => "M_LABEL"

/-- The argument that names the row itself: the comparison of I_JUMPS (42_render R206). -/
def nameArgs : Row → List Text
  | .jumpsLt => [bsCmpName .lt]
  | .jumpsGe => [bsCmpName .ge]
  | .jumpsLe => [bsCmpName .le]
  | _ => []

/-- The arguments that show the fields of a word, in the order of the row's template (42_render R207). -/
def fieldArgs (base : BitVec 2 → Word) (w : Word) : Row → List Text
  | .wrReg =>
    [hex (periphAddress base (field w 9 8) (field w 7 0)), dec (slice w 22 18), dec (slice w 27 23), dec (slice w 17 10)]
  | .rdReg => [hex (periphAddress base (field w 9 8) (field w 7 0)), dec (slice w 22 18), dec (slice w 27 23)]
  | .i2cRw =>
    [hex (slice w 7 0), dec (slice w 15 8), dec (slice w 18 16), dec (slice w 21 19), dec (slice w 25 22),
      dec (slice w 27 27)]
  | .delay | .label => [dec (slice w 15 0)]
  | .adc => [reg (field w 1 0), dec (slice w 6 6), dec (adcChannel (field w 5 2))]
  | .st | .ld => [reg (field w 1 0), reg (field w 3 2), dec (slice w 20 10)]
  | .addr | .subr | .andr | .orr | .movr | .lshr | .rshr => [reg (field w 1 0), reg (field w 3 2), reg (field w 5 4)]
  | .addi | .subi | .andi | .ori | .movi | .lshi | .rshi => [reg (field w 1 0), reg (field w 3 2), dec (slice w 19 4)]
  | .stageInc | .stageDec | .stageRst => [dec (slice w 11 4)]
  | .bxr | .bxzr | .bxfr => [reg (field w 1 0)]
  | .bxi | .bxzi | .bxfi => [hex (slice w 12 2)]
  | .bl | .bge => [off (field w 24 24) (field w 23 17), dec (slice w 15 0)]
  | .jumpsLt | .jumpsGe | .jumpsLe => [off (field w 24 24) (field w 23 17), dec (slice w 7 0)]
  | .wake | .halt => []
  | .sleepCycleSel => [dec (slice w 3 0)]
  | .tsens => [reg (field w 1 0), dec (slice w 15 2)]

theorem template_operands (base : BitVec 2 → Word) (row : Row) (w : Word) :
    template base (operands row w) = call (mnemonic row) (fieldArgs base w row ++ nameArgs row) := by
  have number (hi lo : Nat) : slice w hi lo = (field w hi lo).toNat := (field_toNat w hi lo).symm
  cases row <;> simp only [fieldArgs, number] <;> rfl

theorem row_mem_all (row : Row) : row ∈ Row.all := by
  cases row <;> decide

/-- Rows with one mnemonic have as many names among their arguments. -/
theorem length_nameArgs {row other : Row} (same : mnemonic row = mnemonic other) :
    (nameArgs row).length = (nameArgs other).length := by
  have table : ∀ r ∈ Row.all, ∀ o ∈ Row.all, mnemonic r = mnemonic o → (nameArgs r).length = (nameArgs o).length := by
    decide
  exact table row (row_mem_all row) other (row_mem_all other) same

/-- Mnemonic and comparison name tell the rows apart (42_render R210). -/
theorem row_eq_of_names {row other : Row} (same : mnemonic row = mnemonic other)
    (names : nameArgs row = nameArgs other) : row = other := by
  have table : ∀ r ∈ Row.all, ∀ o ∈ Row.all, mnemonic r = mnemonic o → nameArgs r = nameArgs o → r = o := by
    decide
  exact table row (row_mem_all row) other (row_mem_all other) same names

/-! ## Texts of names and numbers -/

/-- The characters `-` to `z`: those of mnemonics and arguments, and none of the punctuation between them. -/
abbrev IsNameChar (c : Char) : Prop := 45 ≤ c.toNat ∧ c.toNat ≤ 122

/-- What stands between the punctuation of a rendering (42_render R201). -/
def IsName (text : Text) : Prop := text ≠ [] ∧ ∀ c ∈ text, IsNameChar c

theorem isNameChar_of_isHexDigit {c : Char} (digit : IsHexDigit c) : IsNameChar c := by
  unfold IsHexDigit at digit
  omega

/-- The check of a given text character by character, in the form that evaluates. -/
theorem forall_mem_of_all {P : Char → Prop} [DecidablePred P] {text : Text}
    (all : (text.all fun c => decide (P c)) = true) : ∀ c ∈ text, P c :=
  fun c member => of_decide_eq_true (List.all_eq_true.1 all c member)

theorem IsName.cons {c : Char} {text : Text} (first : IsNameChar c) (rest : IsName text) : IsName (c :: text) :=
  ⟨List.cons_ne_nil _ _, List.forall_mem_cons.2 ⟨first, rest.2⟩⟩

theorem isName_numeral {base : Nat} (two : 1 < base) (sixteen : base ≤ 16) (n : Nat) : IsName (numeral base n) :=
  ⟨numeral_ne_nil two n, forall_mem_numeral two
    (fun _ small => isNameChar_of_isHexDigit (isHexDigit_digitChar (small.trans_le sixteen))) n⟩

theorem isName_dec (n : Nat) : IsName (dec n) := isName_numeral (by decide) (by decide) n

theorem isName_hex (n : Nat) : IsName (hex n) :=
  .cons (by decide) (.cons (by decide) (isName_numeral (by decide) le_rfl n))

theorem isName_reg (i : BitVec 2) : IsName (reg i) := .cons (by decide) (isName_dec _)

theorem isName_off (sign : BitVec 1) (mag : BitVec 7) : IsName (off sign mag) := by
  rw [off]
  split_ifs
  · exact .cons (by decide) (isName_dec _)
  · exact isName_dec _

theorem isName_bsCmpName (cmp : BsCmp) : IsName (bsCmpName cmp) := by
  cases cmp <;> exact ⟨by decide, forall_mem_of_all (by decide)⟩

theorem isName_mnemonic (row : Row) : IsName (mnemonic row).toList := by
  cases row <;> exact ⟨by decide, forall_mem_of_all (by decide)⟩

theorem isName_nameArgs (row : Row) : ∀ a ∈ nameArgs row, IsName a := by
  cases row <;> simp [nameArgs, isName_bsCmpName]

theorem isName_fieldArgs (base : BitVec 2 → Word) (w : Word) (row : Row) : ∀ a ∈ fieldArgs base w row, IsName a := by
  cases row <;> simp [fieldArgs, isName_dec, isName_hex, isName_reg, isName_off]

/-- Every argument of a template is a name or a number. -/
theorem isName_args (base : BitVec 2 → Word) (w : Word) (row : Row) :
    ∀ a ∈ fieldArgs base w row ++ nameArgs row, IsName a :=
  List.forall_mem_append.2 ⟨isName_fieldArgs base w row, isName_nameArgs row⟩

/-! ## A call determines its mnemonic and its arguments -/

/-- No punctuation of a rendering stands inside a name. -/
theorem IsName.notMem {text : Text} (name : IsName text) {c : Char} (low : c.toNat < 45) : c ∉ text := by
  intro member
  obtain ⟨lower, -⟩ := name.2 c member
  omega

theorem joinArgs_cons_ne_nil {a : Text} (name : IsName a) (rest : List Text) : joinArgs (a :: rest) ≠ [] := by
  cases rest <;> simp [joinArgs, name.1]

theorem joinArgs_cons_cons (a b : Text) (rest : List Text) :
    joinArgs (a :: b :: rest) = a ++ ',' :: ' ' :: joinArgs (b :: rest) := by
  simp [joinArgs]

/-- One argument is told from several by the comma. -/
theorem joinArgs_singleton_ne {a : Text} (name : IsName a) (b c : Text) (rest : List Text) :
    joinArgs [a] ≠ joinArgs (b :: c :: rest) := by
  rw [joinArgs_cons_cons]
  intro same
  have comma : ',' ∈ joinArgs [a] := same ▸ by simp
  exact name.notMem (by decide) comma

/-- Two texts cut at the first occurrence of a character. -/
theorem append_cons_inj {c : Char} {a b s t : Text} (ha : c ∉ a) (hb : c ∉ b) (same : a ++ c :: s = b ++ c :: t) :
    a = b ∧ s = t := by
  induction a generalizing b with
  | nil =>
    cases b with
    | nil => exact ⟨rfl, (List.cons.inj same).2⟩
    | cons y b => exact absurd ((List.cons.inj same).1 ▸ List.mem_cons_self) hb
  | cons x a ih =>
    cases b with
    | nil => exact absurd ((List.cons.inj same).1 ▸ List.mem_cons_self) ha
    | cons y b =>
      obtain ⟨rfl, rest⟩ := List.cons.inj same
      obtain ⟨rfl, tails⟩ := ih (List.not_mem_of_not_mem_cons ha) (List.not_mem_of_not_mem_cons hb) rest
      exact ⟨rfl, tails⟩

theorem joinArgs_inj : ∀ {as bs : List Text}, (∀ a ∈ as, IsName a) → (∀ b ∈ bs, IsName b) →
    joinArgs as = joinArgs bs → as = bs
  | [], [], _, _, _ => rfl
  | [], b :: bs, _, hb, same => absurd same.symm (joinArgs_cons_ne_nil (hb b List.mem_cons_self) bs)
  | a :: as, [], ha, _, same => absurd same (joinArgs_cons_ne_nil (ha a List.mem_cons_self) as)
  | [a], [b], _, _, same => congrArg (fun text => [text]) same
  | [a], b :: b' :: bs, ha, _, same => absurd same (joinArgs_singleton_ne (ha a List.mem_cons_self) b b' bs)
  | a :: a' :: as, [b], _, hb, same => absurd same.symm (joinArgs_singleton_ne (hb b List.mem_cons_self) a a' as)
  | a :: a' :: as, b :: b' :: bs, ha, hb, same => by
    obtain ⟨headA, tailA⟩ := List.forall_mem_cons.1 ha
    obtain ⟨headB, tailB⟩ := List.forall_mem_cons.1 hb
    rw [joinArgs_cons_cons, joinArgs_cons_cons] at same
    obtain ⟨first, rest⟩ := append_cons_inj (headA.notMem (by decide)) (headB.notMem (by decide)) same
    rw [first, joinArgs_inj tailA tailB (List.cons_inj_right _ |>.1 rest)]

theorem call_inj {m n : String} {as bs : List Text} (hm : IsName m.toList) (hn : IsName n.toList)
    (ha : ∀ a ∈ as, IsName a) (hb : ∀ b ∈ bs, IsName b) (same : call m as = call n bs) : m = n ∧ as = bs := by
  simp only [call, List.append_assoc, List.cons_append] at same
  obtain ⟨names, rest⟩ := append_cons_inj (hm.notMem (by decide)) (hn.notMem (by decide)) same
  exact ⟨String.toList_inj.1 names, joinArgs_inj ha hb (List.append_cancel_right rest)⟩

/-! ## The arguments determine the fields they show -/

/-- The operand ranges a rendering shows: all but the target field a BX row's mode does not read (42_render R207). -/
def shownRanges (row : Row) : List (Nat × Nat) := (operandRanges row).filter (· ∉ unusedRanges row)

theorem dec_inj {m n : Nat} : dec m = dec n ↔ m = n := numeral_inj (by decide) (by decide)

theorem hex_inj {m n : Nat} : hex m = hex n ↔ m = n := by
  rw [hex_eq, hex_eq, List.cons_inj_right, List.cons_inj_right, numeral_inj (by decide) le_rfl]

theorem reg_inj {i j : BitVec 2} : reg i = reg j ↔ i = j := by
  rw [reg, reg, List.cons_inj_right, dec_inj, BitVec.toNat_inj]

theorem field_inj {w k : Word} {hi lo : Nat} : field w hi lo = field k hi lo ↔ slice w hi lo = slice k hi lo := by
  rw [← field_toNat, ← field_toNat, BitVec.toNat_inj]

/-- A decimal form begins with no sign. -/
theorem dec_ne_minus (n : Nat) (text : Text) : dec n ≠ '-' :: text := by
  intro same
  have digits := forall_mem_numeral (P := IsDecDigit) (by decide) (fun _ => isDecDigit_digitChar) n
  have minus : IsDecDigit '-' := digits '-' (by rw [← dec, same]; exact List.mem_cons_self)
  exact absurd minus.1 (by decide)

/-- The sign is recovered from the leading `-`, so the two zeros differ (42_render R210). -/
theorem off_inj {s t : BitVec 1} {m n : BitVec 7} : off s m = off t n ↔ m = n ∧ s = t := by
  have cases (b : BitVec 1) : b = 0 ∨ b = 1 := by revert b; decide
  rcases cases s with rfl | rfl <;> rcases cases t with rfl | rfl <;>
    simp [off, dec_inj, dec_ne_minus, (dec_ne_minus _ _).symm, BitVec.toNat_inj]

/-- The channel shows a `mux` that is not 0. -/
theorem adcChannel_field_inj {w k : Word} (hw : slice w 5 2 ≠ 0) (hk : slice k 5 2 ≠ 0) :
    adcChannel (field w 5 2) = adcChannel (field k 5 2) ↔ slice w 5 2 = slice k 5 2 := by
  rw [adcChannel, adcChannel, field_toNat, field_toNat]
  omega

/-- Words that agree on what a rendering shows have the same arguments. -/
theorem fieldArgs_congr (base : BitVec 2 → Word) {row : Row} {w k : Word} (agree : AgreeOn w k (shownRanges row)) :
    fieldArgs base w row = fieldArgs base k row := by
  cases row <;> simp_all [AgreeOn, shownRanges, operandRanges, unusedRanges, fieldArgs, field]

theorem agreeOn_of_fieldArgs_eq {base : BitVec 2 → Word} (disjoint : RegionsDisjoint base) {row : Row} {w k : Word}
    (hw : row = .adc → slice w 5 2 ≠ 0) (hk : row = .adc → slice k 5 2 ≠ 0)
    (same : fieldArgs base w row = fieldArgs base k row) : AgreeOn w k (shownRanges row) := by
  cases row
  case adc =>
    simpa [AgreeOn, shownRanges, operandRanges, unusedRanges, fieldArgs, dec_inj, reg_inj, field_inj,
      adcChannel_field_inj (hw rfl) (hk rfl)] using same
  case wake | halt => exact trivial
  all_goals
    simpa [AgreeOn, shownRanges, operandRanges, unusedRanges, fieldArgs, dec_inj, hex_inj, reg_inj, off_inj,
      periphAddress_inj disjoint, field_inj, and_assoc] using same

/-! ## A template determines its row and what it shows -/

theorem template_congr (base : BitVec 2 → Word) {row : Row} {w k : Word} (agree : AgreeOn w k (shownRanges row)) :
    template base (operands row w) = template base (operands row k) := by
  rw [template_operands, template_operands, fieldArgs_congr base agree]

/-- The mnemonic and, on I_JUMPS, the name give the row; the other arguments give the fields shown (42_render R210). -/
theorem row_eq_and_fieldArgs_eq {base : BitVec 2 → Word} {row other : Row} {w k : Word}
    (same : template base (operands row w) = template base (operands other k)) :
    row = other ∧ fieldArgs base w row = fieldArgs base k row := by
  rw [template_operands, template_operands] at same
  obtain ⟨mnemonics, args⟩ :=
    call_inj (isName_mnemonic row) (isName_mnemonic other) (isName_args base w row) (isName_args base k other) same
  obtain ⟨fields, names⟩ := List.append_inj' args (length_nameArgs mnemonics)
  obtain rfl := row_eq_of_names mnemonics names
  exact ⟨rfl, fields⟩

end Sys2Proof.Proofs.Templates
end

section
/-! Renderings of words (42_render R200, R201, R210, R212): their characters, the word a strict rendering stands for, and
the bits a lenient rendering ignores. -/

namespace Sys2Proof.Proofs.Renderings

open Sys2Proof.Machine Sys2Proof.Claims Sys2Proof.Proofs.Masks Sys2Proof.Proofs.Acceptance Sys2Proof.Proofs.RowRules
  Sys2Proof.Proofs.CanonicalWords Sys2Proof.Proofs.Numerals Sys2Proof.Proofs.Templates

/-! ## Everything a rendering can be -/

/-- The template of an accepting row, or the fallback. -/
theorem render_cases (p : Params) (w : Word) :
    (∃ row, rowAccepts p.unusedBitsStrict row w = true ∧ render p w = template p.periphBase (operands row w)) ∨
      render p w = fallback w := by
  cases decoded : decode p.unusedBitsStrict w with
  | error reason => exact .inr (render_of_decode_error decoded)
  | ok i =>
    obtain ⟨row, accepts, rfl⟩ := decode_eq_ok_iff.1 decoded
    exact .inl ⟨row, accepts, render_of_decode_ok decoded⟩

/-! ## Characters -/

/-- Printable ASCII (42_render R201). -/
abbrev IsPrintable (c : Char) : Prop := 32 ≤ c.toNat ∧ c.toNat ≤ 126

theorem isPrintable_of_isName {text : Text} (name : IsName text) : ∀ c ∈ text, IsPrintable c := by
  intro c member
  obtain ⟨lower, upper⟩ := name.2 c member
  exact ⟨by omega, by omega⟩

theorem isPrintable_joinArgs : ∀ {as : List Text}, (∀ a ∈ as, IsName a) → ∀ c ∈ joinArgs as, IsPrintable c
  | [], _ => List.forall_mem_nil _
  | [a], names => isPrintable_of_isName (names a List.mem_cons_self)
  | a :: b :: rest, names => by
    obtain ⟨head, tail⟩ := List.forall_mem_cons.1 names
    have separator : ∀ c ∈ ", ".toList, IsPrintable c := forall_mem_of_all (by decide)
    simp only [joinArgs, List.forall_mem_append]
    exact ⟨⟨isPrintable_of_isName head, separator⟩, isPrintable_joinArgs tail⟩

theorem isPrintable_call {m : String} {as : List Text} (hm : IsName m.toList) (ha : ∀ a ∈ as, IsName a) :
    ∀ c ∈ call m as, IsPrintable c := by
  have close : ∀ c ∈ [')'], IsPrintable c := forall_mem_of_all (by decide)
  simp only [call, List.forall_mem_append, List.forall_mem_cons (a := '(')]
  exact ⟨⟨isPrintable_of_isName hm, by decide, isPrintable_joinArgs ha⟩, close⟩

theorem isPrintable_fallback (w : Word) : ∀ c ∈ fallback w, IsPrintable c := by
  have digits : IsName (hex8 w) :=
    ⟨List.cons_ne_nil _ _, fun c digit => isNameChar_of_isHexDigit (isHexDigit_of_mem_hex8 w c digit)⟩
  have before : ∀ c ∈ " .instruction = 0x".toList, IsPrintable c := forall_mem_of_all (by decide)
  have close : ∀ c ∈ [' ', Char.ofNat 125], IsPrintable c := forall_mem_of_all (by decide)
  simp only [fallback, List.cons_append, List.forall_mem_append, List.forall_mem_cons (a := Char.ofNat 123)]
  exact ⟨by decide, ⟨before, isPrintable_of_isName digits⟩, close⟩

theorem isPrintable_render (p : Params) (w : Word) : ∀ c ∈ render p w, IsPrintable c := by
  rcases render_cases p w with ⟨row, -, rendered⟩ | rendered <;> rw [rendered]
  · rw [template_operands]
    exact isPrintable_call (isName_mnemonic row) (isName_args _ w row)
  · exact isPrintable_fallback w

/-- The text neither begins nor ends with a space. -/
def SpaceFreeEnds (text : Text) : Prop :=
  ∃ first middle last, text = first :: middle ++ [last] ∧ first ≠ ' ' ∧ last ≠ ' '

/-- A call begins with its mnemonic and ends with a parenthesis. -/
theorem spaceFreeEnds_call {m : String} (hm : IsName m.toList) (as : List Text) : SpaceFreeEnds (call m as) := by
  obtain ⟨first, rest, letters⟩ := List.exists_cons_of_ne_nil hm.1
  have notSpace : first ≠ ' ' := by
    rintro rfl
    exact hm.notMem (c := ' ') (by decide) (letters ▸ List.mem_cons_self)
  exact ⟨first, rest ++ '(' :: joinArgs as, ')', by simp [call, letters], notSpace, by decide⟩

/-- The fallback is held by braces. -/
theorem spaceFreeEnds_fallback (w : Word) : SpaceFreeEnds (fallback w) :=
  ⟨Char.ofNat 123, " .instruction = 0x".toList ++ hex8 w ++ [' '], Char.ofNat 125, by simp [fallback], by decide,
    by decide⟩

theorem spaceFreeEnds_render (p : Params) (w : Word) : SpaceFreeEnds (render p w) := by
  rcases render_cases p w with ⟨row, -, rendered⟩ | rendered <;> rw [rendered]
  · rw [template_operands]
    exact spaceFreeEnds_call (isName_mnemonic row) _
  · exact spaceFreeEnds_fallback w

/-- Settles O32: the characters and the two ends, each for a template and for the fallback. -/
theorem renderingIsPrintableAscii : Obligations.RenderingIsPrintableAscii :=
  fun p w => ⟨isPrintable_render p w, spaceFreeEnds_render p w⟩

/-! ## Strict renderings -/

/-- Every bit of a format is fixed under the strict policy or shown. -/
theorem strictMask_or_shownRanges (row : Row) :
    strictMask row ||| rangesMask (shownRanges row) = BitVec.allOnes 32 := by
  cases row <;> decide

/-- What a row that accepts a word says about its bits. -/
theorem fixed_of_rowAccepts {strict : Bool} {row : Row} {w : Word} (accepts : rowAccepts strict row w = true) :
    w &&& (if strict then strictMask row else lenientMask row) = matchWord row ∧ (row = .adc → slice w 5 2 ≠ 0) := by
  rw [rowAccepts, Bool.and_eq_true, beq_iff_eq] at accepts
  obtain ⟨fixed, value⟩ := accepts
  refine ⟨fixed, ?_⟩
  rintro rfl
  simpa using value

/-- Words of one row with the same bits shown are the same word, as the others are the row's match bits (42_render R210). -/
theorem eq_of_agreeOn_shownRanges {row : Row} {w k : Word} (hw : w &&& strictMask row = matchWord row)
    (hk : k &&& strictMask row = matchWord row) (agree : AgreeOn w k (shownRanges row)) : w = k := by
  have shown : w &&& rangesMask (shownRanges row) = k &&& rangesMask (shownRanges row) := and_rangesMask_eq_iff.2 agree
  have whole := and_or_eq_iff.2 ⟨hw.trans hk.symm, shown⟩
  rwa [strictMask_or_shownRanges, BitVec.and_allOnes, BitVec.and_allOnes] at whole

/-- Equal templates show the same row and the same bits, which under the strict policy make up the word. -/
theorem eq_of_template_eq {base : BitVec 2 → Word} (disjoint : RegionsDisjoint base) {row other : Row} {w k : Word}
    (hw : rowAccepts true row w = true) (hk : rowAccepts true other k = true)
    (same : template base (operands row w) = template base (operands other k)) : w = k := by
  obtain ⟨rfl, args⟩ := row_eq_and_fieldArgs_eq same
  obtain ⟨fixedW, muxW⟩ := fixed_of_rowAccepts hw
  obtain ⟨fixedK, muxK⟩ := fixed_of_rowAccepts hk
  exact eq_of_agreeOn_shownRanges fixedW fixedK (agreeOn_of_fieldArgs_eq disjoint muxW muxK args)

/-- No template starts with the brace of the fallback (42_render R210). -/
theorem template_ne_fallback (base : BitVec 2 → Word) (row : Row) (w k : Word) :
    template base (operands row w) ≠ fallback k := by
  rw [template_operands]
  intro same
  obtain ⟨first, rest, letters⟩ := List.exists_cons_of_ne_nil (isName_mnemonic row).1
  have letter : IsNameChar first := (isName_mnemonic row).2 first (letters ▸ List.mem_cons_self)
  have brace : first = Char.ofNat 123 := by
    rw [call, letters] at same
    exact (List.cons.inj same).1
  exact absurd (brace ▸ letter) (by decide)

/-- Settles O33: two templates and two fallbacks each name their words, and a template is never a fallback. -/
theorem renderingDeterminesWord : Obligations.RenderingDeterminesWord := by
  intro p strict disjoint w k same
  rcases render_cases p w with ⟨row, hw, textW⟩ | textW <;> rcases render_cases p k with ⟨other, hk, textK⟩ | textK <;>
    rw [textW, textK] at same
  · rw [strict] at hw hk
    exact eq_of_template_eq disjoint hw hk same
  · exact absurd same (template_ne_fallback _ row w k)
  · exact absurd same.symm (template_ne_fallback _ other k w)
  · exact fallback_inj same

/-! ## Lenient renderings -/

theorem unusedMask_and_lenientMask (row : Row) : unusedMask row &&& lenientMask row = 0 := by
  cases row <;> decide

theorem unusedMask_and_shownRanges (row : Row) : unusedMask row &&& rangesMask (shownRanges row) = 0 := by
  cases row <;> decide

/-- Clearing bits outside a mask changes nothing under it. -/
theorem and_not_and_of_and_eq_zero {u m : Word} (w : Word) (apart : u &&& m = 0) : w &&& ~~~u &&& m = w &&& m := by
  rw [and_eq_and_iff]
  intro i one
  have clear : u.getLsbD i = false := by simpa [one] using congrArg (·.getLsbD i) apart
  rw [BitVec.getLsbD_and, BitVec.getLsbD_not, clear, decide_eq_true (BitVec.lt_of_getLsbD one)]
  simp

theorem and_not_and_self (w u : Word) : w &&& ~~~u &&& u = 0 := by
  rw [BitVec.and_assoc]
  simp

/-- A word with its unused bits cleared. -/
abbrev cleared (row : Row) (w : Word) : Word := w &&& ~~~unusedMask row

theorem agreeOn_cleared (row : Row) (w : Word) : AgreeOn (cleared row w) w (shownRanges row) :=
  and_rangesMask_eq_iff.1 (and_not_and_of_and_eq_zero w (unusedMask_and_shownRanges row))

/-- The cleared word is of the same row, under either policy. -/
theorem decode_cleared {row : Row} {w : Word} (accepts : rowAccepts false row w = true) (strict : Bool) :
    decode strict (cleared row w) = .ok (operands row (cleared row w)) := by
  obtain ⟨fixed, mux⟩ := fixed_of_rowAccepts accepts
  have fixedCleared : cleared row w &&& lenientMask row = matchWord row :=
    (and_not_and_of_and_eq_zero w (unusedMask_and_lenientMask row)).trans fixed
  have muxCleared : row = .adc → slice (cleared row w) 5 2 ≠ 0 := by
    rintro rfl
    obtain ⟨-, -, sameMux, -⟩ := agreeOn_cleared .adc w
    rw [sameMux]
    exact mux rfl
  rw [decode_of_fixed fixedCleared muxCleared, and_unusedMask_eq_zero_iff.1 (and_not_and_self w _), Bool.and_false,
    if_neg Bool.false_ne_true]

/-- The cleared word renders under either policy as the word does under the lenient one. -/
theorem render_cleared {row : Row} {w : Word} (accepts : rowAccepts false row w = true) (p : Params) (strict : Bool) :
    render { p with unusedBitsStrict := strict } (cleared row w) = render { p with unusedBitsStrict := false } w :=
  have lenient : decode false w = .ok (operands row w) := decode_of_rowAccepts accepts
  calc render { p with unusedBitsStrict := strict } (cleared row w)
      = template p.periphBase (operands row (cleared row w)) := render_of_decode_ok (decode_cleared accepts strict)
    _ = template p.periphBase (operands row w) := template_congr _ (agreeOn_cleared row w)
    _ = render { p with unusedBitsStrict := false } w :=
      (render_of_decode_ok (p := { p with unusedBitsStrict := false }) lenient).symm

/-- Settles O36: the cleared word decodes under either policy, and agrees with the word on all a rendering shows. -/
theorem lenientRenderingIgnoresUnusedBits : Obligations.LenientRenderingIgnoresUnusedBits := by
  refine ⟨?_, by decide, by decide⟩
  intro p w i decoded
  obtain ⟨row, accepts, rfl⟩ := decode_eq_ok_iff.1 decoded
  rw [row_operands]
  exact ⟨render_cleared accepts p false, render_cleared accepts p true⟩

/-! ## The examples of 42_render R214 -/

/-- Settles O29: twenty-one fixed words. -/
theorem renderExamples : Obligations.RenderExamples := by
  unfold Obligations.RenderExamples
  decide

end Sys2Proof.Proofs.Renderings
end

section
/-! Listings (42_render R209, R210): one line per word, and the words its lines name. -/

namespace Sys2Proof.Proofs.Listings

open Sys2Proof.Machine Sys2Proof.Proofs.Templates Sys2Proof.Proofs.Renderings

theorem listing_cons (p : Params) (w : Word) (ws : List Word) :
    listing p (w :: ws) = (render p w ++ [',']) ++ '\n' :: listing p ws := by
  simp [listing]

theorem listing_append (p : Params) (xs ys : List Word) : listing p (xs ++ ys) = listing p xs ++ listing p ys := by
  induction xs with
  | nil => rfl
  | cons x xs ih => simp only [List.cons_append, listing_cons, ih, List.append_assoc]

/-- A line holds no line terminator but its own. -/
theorem lineFeed_notMem_line (p : Params) (w : Word) : '\n' ∉ render p w ++ [','] := by
  rw [List.mem_append, not_or]
  refine ⟨fun member => ?_, by decide⟩
  exact absurd (isPrintable_render p w _ member) (by decide)

theorem count_lineFeed_listing (p : Params) (ws : List Word) : (listing p ws).count '\n' = ws.length := by
  induction ws with
  | nil => rfl
  | cons w ws ih =>
    rw [listing_cons, List.count_append, List.count_eq_zero_of_not_mem (lineFeed_notMem_line p w), List.count_cons_self,
      ih, Nat.zero_add, List.length_cons]

/-- Settles O34: the equations of `listing`, and the line feeds counted line by line. -/
theorem listingHasOneLinePerWord : Obligations.ListingHasOneLinePerWord :=
  fun p => ⟨rfl, fun _ _ => rfl, listing_append p, count_lineFeed_listing p⟩

/-- Where renderings determine words, listings determine programs: a listing is cut at its first line feed. -/
theorem listing_inj {p : Params} (render_inj : ∀ w k, render p w = render p k → w = k) :
    ∀ {xs ys : List Word}, listing p xs = listing p ys → xs = ys
  | [], [], _ => rfl
  | [], y :: ys, same => by simp [listing] at same
  | x :: xs, [], same => by simp [listing] at same
  | x :: xs, y :: ys, same => by
    rw [listing_cons, listing_cons] at same
    obtain ⟨line, rest⟩ := append_cons_inj (lineFeed_notMem_line p x) (lineFeed_notMem_line p y) same
    rw [render_inj x y (List.append_cancel_right line), listing_inj render_inj rest]

/-- Settles O35, by O33 line by line. -/
theorem listingDeterminesProgram : Obligations.ListingDeterminesProgram :=
  fun p strict disjoint _ _ => listing_inj (renderingDeterminesWord p strict disjoint)

end Sys2Proof.Proofs.Listings
end

section
/-! U2's functions (43_tick_quantizer R231, R233, R234): the highest set bit, everything SELECT_SHIFT can answer, when a
window holds a count, and what QUANTIZE and WINDOW drive. -/

namespace Sys2Proof.Proofs.TickQuantizer

open Sys2Proof.Machine Sys2Proof.Proofs.Evaluation

/-! ## The highest set bit (00_scope R9) -/

/-- The count 0 has no highest bit; the model's `hibit` is 0 there, which keeps both sides true. -/
theorem hibit_lt_iff {x k : Nat} (positive : 0 < k) : hibit x < k ↔ x < 2 ^ k := by
  rcases eq_or_ne x 0 with rfl | nonzero
  · exact iff_of_true positive (Nat.two_pow_pos k)
  · exact Nat.log2_lt nonzero

theorem le_hibit_iff {x k : Nat} (positive : 0 < k) : k ≤ hibit x ↔ 2 ^ k ≤ x := by
  rw [← Nat.not_lt, hibit_lt_iff positive, Nat.not_lt]

theorem hibit_eq {x h : Nat} (low : 2 ^ h ≤ x) (high : x < 2 ^ (h + 1)) : hibit x = h :=
  (Nat.log2_eq_iff (Nat.two_pow_pos h |>.trans_le low).ne').2 ⟨low, high⟩

theorem hibit_mono {x y : Nat} (le : x ≤ y) : hibit x ≤ hibit y := by
  rw [hibit, hibit, Nat.log2_eq_log_two, Nat.log2_eq_log_two]
  exact Nat.log_mono_right le

/-! ## SELECT_SHIFT (R233) -/

section SelectShift

variable {raw : BitVec 64}

/-- Everything SELECT_SHIFT can answer, by the highest bit; the count 0 is in the first range. -/
theorem selectShift_cases (raw : BitVec 64) :
    (hibit raw.toNat < 16 ∧ (selectShift raw).toNat = 1) ∨
      (16 ≤ hibit raw.toNat ∧ hibit raw.toNat < 32 ∧ (selectShift raw).toNat = hibit raw.toNat - 15) ∨
      (32 ≤ hibit raw.toNat ∧ (selectShift raw).toNat = 32) := by
  rw [selectShift]
  split_ifs with zero high low
  · subst zero
    exact .inl (by decide)
  · exact .inr (.inr ⟨high, rfl⟩)
  · exact .inl ⟨low, rfl⟩
  · rw [BitVec.toNat_ofNat]
    omega

/-- The selected shift is in WINDOW's range (R231). -/
theorem selectShift_le (raw : BitVec 64) : (selectShift raw).toNat ≤ 32 := by
  have range := selectShift_cases raw
  omega

theorem selectShift_of_hibit_lt (low : hibit raw.toNat < 16) : selectShift raw = 1 :=
  BitVec.eq_of_toNat_eq (by have := selectShift_cases raw; show _ = 1; omega)

theorem selectShift_of_le_hibit (high : 32 ≤ hibit raw.toNat) : selectShift raw = 32 :=
  BitVec.eq_of_toNat_eq (by have := selectShift_cases raw; show _ = 32; omega)

theorem selectShift_of_lt (low : raw.toNat < 2 ^ 16) : selectShift raw = 1 :=
  selectShift_of_hibit_lt ((hibit_lt_iff (by decide)).2 low)

theorem selectShift_of_le (high : 2 ^ 32 ≤ raw.toNat) : selectShift raw = 32 :=
  selectShift_of_le_hibit ((le_hibit_iff (by decide)).2 high)

/-- Between bits 16 and 31 the highest bit is the top bit of the window. -/
theorem hibit_eq_selectShift (low : 2 ^ 16 ≤ raw.toNat) (high : raw.toNat < 2 ^ 32) :
    hibit raw.toNat = (selectShift raw).toNat + 15 := by
  have above := (le_hibit_iff (by decide)).2 low
  have below := (hibit_lt_iff (by decide)).2 high
  have range := selectShift_cases raw
  omega

theorem selectShift_mono {a b : BitVec 64} (le : a ≤ b) : selectShift a ≤ selectShift b := by
  have hibits := hibit_mono (BitVec.le_def.1 le)
  have range_a := selectShift_cases a
  have range_b := selectShift_cases b
  rw [BitVec.le_def]
  omega

/-- Where the shift grows, a power of two that the larger window resolves lies between the two counts: the larger count's
highest bit, or bit 32 if that is lower. -/
theorem exists_two_pow_between {a b : BitVec 64} (lt : (selectShift a).toNat < (selectShift b).toNat) :
    ∃ k, (selectShift b).toNat ≤ k ∧ a.toNat < 2 ^ k ∧ 2 ^ k ≤ b.toNat := by
  have range_a := selectShift_cases a
  have range_b := selectShift_cases b
  refine ⟨min 32 (hibit b.toNat), by omega, (hibit_lt_iff ?_).1 ?_, (le_hibit_iff ?_).1 ?_⟩ <;> omega

end SelectShift

/-! ## Windows -/

/-- No set bit lies above the 16-bit window at a shift exactly when the highest bit is at most its top bit. -/
theorem div_two_pow_lt_iff (x s : Nat) : x / 2 ^ s < 2 ^ 16 ↔ hibit x ≤ s + 15 := by
  rw [Nat.div_lt_iff_lt_mul (Nat.two_pow_pos s), ← Nat.pow_add, Nat.add_comm, ← hibit_lt_iff (by omega)]
  omega

/-- Below 2^48 the selected window has no set bit above it (R238). -/
theorem selectShift_fits {raw : BitVec 64} (small : raw.toNat < 2 ^ 48) :
    raw.toNat / 2 ^ (selectShift raw).toNat < 2 ^ 16 := by
  have hibit_lt := (hibit_lt_iff (by decide)).2 small
  have range := selectShift_cases raw
  rw [div_two_pow_lt_iff]
  omega

theorem window_of_le (raw : BitVec 64) {shift : BitVec 6} (inRange : shift.toNat ≤ 32) :
    window raw shift = { winValue := visibleValue raw shift.toNat, winOk := 1 } := by
  simp [window, winOkOf, inRange]

theorem winOk_of_lt (raw : BitVec 64) {shift : BitVec 6} (beyond : 32 < shift.toNat) : (window raw shift).winOk = 0 := by
  simp [window, winOkOf, Nat.not_le.2 beyond]

/-! ## QUANTIZE (R234) -/

@[simp] theorem quantizeRaw_shift (raw : BitVec 64) : (quantizeRaw raw).shift = selectShift raw := rfl

theorem quantizeRaw_value_toNat (raw : BitVec 64) :
    (quantizeRaw raw).value.toNat = raw.toNat / 2 ^ (selectShift raw).toNat % 2 ^ 16 :=
  visibleValue_toNat raw _

/-- Below 2^48 the mask removes nothing. -/
theorem quantizeRaw_value_of_lt {raw : BitVec 64} (small : raw.toNat < 2 ^ 48) :
    (quantizeRaw raw).value.toNat = raw.toNat / 2 ^ (selectShift raw).toNat := by
  rw [quantizeRaw_value_toNat, Nat.mod_eq_of_lt (selectShift_fits small)]

theorem over48Of_eq_zero_iff (raw : BitVec 64) : over48Of raw = 0 ↔ raw.toNat < 2 ^ 48 := by
  rw [← Nat.not_le]
  exact (BitVec.ofBool_eq_iff_eq (b' := false)).trans decide_eq_false_iff_not

/-! ## SELECT_SHIFT, WINDOW and QUANTIZE as the rules state them -/

/-- Settles O39: the cases of SELECT_SHIFT at the highest bit `h`. -/
theorem selectShiftCases : Obligations.SelectShiftCases := by
  refine ⟨by decide, fun raw h low high => ?_⟩
  obtain rfl := hibit_eq low high
  refine ⟨selectShift_of_le_hibit, selectShift_of_hibit_lt, fun above below => ?_⟩
  have range := selectShift_cases raw
  omega

/-- Settles O46: the shifts in the source's range and beyond. -/
theorem windowCases : Obligations.WindowCases := by
  refine fun raw shiftIn => ⟨fun inRange => ?_, fun beyond => ?_⟩
  · rw [window_of_le raw inRange]
    exact ⟨rfl, visibleValue_toNat raw _, rfl⟩
  · have notOk := winOk_of_lt raw beyond
    exact ⟨notOk, by simp [readWinValue, notOk]⟩

/-- Settles O47: the selected shift is always in WINDOW's range. -/
theorem quantizeFunction : Obligations.QuantizeFunction := by
  intro p durationMs cal raw q
  have windowed : window raw q.shift = { winValue := q.value, winOk := 1 } := window_of_le raw (selectShift_le raw)
  exact ⟨rfl, rfl, quantizeRaw_value_toNat raw, by rw [windowed], by rw [windowed], over48Of_eq_one_iff raw,
    over48Of_eq_zero_iff raw⟩

/-- Settles O48: a count of 2^48 or more is in the top range of SELECT_SHIFT, where the shift is 32. -/
theorem countsAbove48BitsWrap : Obligations.CountsAbove48BitsWrap := by
  refine ⟨fun p durationMs cal large => ?_, by decide, by decide⟩
  have shift : selectShift (p.ticksFn durationMs cal) = 32 := selectShift_of_le (by omega)
  refine ⟨shift, ?_, (over48Of_eq_one_iff _).2 large⟩
  rw [quantize, quantizeRaw_value_toNat, shift]
  rfl

end Sys2Proof.Proofs.TickQuantizer
end

section
/-! The properties the spec derives of U2 (43_tick_quantizer R237 to R241): the ranges of the pair, the resolution, the
tightest window and monotonicity. -/

namespace Sys2Proof.Proofs.TickProperties

open Sys2Proof.Machine Sys2Proof.Proofs.TickQuantizer

/-! ## The pair by the range of the count (R237) -/

section Ranges

variable {raw : BitVec 64}

theorem quantizeRaw_of_lt (low : raw.toNat < 2 ^ 16) :
    (quantizeRaw raw).shift = 1 ∧ (quantizeRaw raw).value.toNat = raw.toNat / 2 := by
  have shift := selectShift_of_lt low
  refine ⟨shift, ?_⟩
  rw [quantizeRaw_value_of_lt (by omega), shift]
  rfl

/-- In the second range the highest bit of the count is the top bit of the window. -/
theorem count_bounds (low : 2 ^ 16 ≤ raw.toNat) (high : raw.toNat < 2 ^ 32) :
    2 ^ ((selectShift raw).toNat + 15) ≤ raw.toNat ∧ raw.toNat < 2 ^ ((selectShift raw).toNat + 16) := by
  have topBit := hibit_eq_selectShift low high
  exact ⟨(le_hibit_iff (by omega)).1 topBit.ge, (hibit_lt_iff (by omega)).1 (by omega)⟩

theorem le_quantizeRaw_value (low : 2 ^ 16 ≤ raw.toNat) (high : raw.toNat < 2 ^ 32) :
    0x8000 ≤ (quantizeRaw raw).value.toNat := by
  obtain ⟨top, -⟩ := count_bounds low high
  rw [quantizeRaw_value_of_lt (by omega), Nat.le_div_iff_mul_le (Nat.two_pow_pos _)]
  rwa [Nat.pow_add, Nat.mul_comm] at top

theorem quantizeRaw_of_le (high : 2 ^ 32 ≤ raw.toNat) :
    (quantizeRaw raw).shift = 32 ∧ (quantizeRaw raw).value.toNat = raw.toNat / 2 ^ 32 % 2 ^ 16 := by
  have shift := selectShift_of_le high
  refine ⟨shift, ?_⟩
  rw [quantizeRaw_value_toNat, shift]
  rfl

end Ranges

/-- Settles O40, range by range. -/
theorem shiftAndValueRanges : Obligations.ShiftAndValueRanges := by
  refine fun raw => ⟨Evaluation.shiftLegal_selectShift raw, fun high => ?below16, fun low high => ?below32,
    fun low high => ?below48, fun low => quantizeRaw_of_le (by omega)⟩
  case below16 =>
    obtain ⟨shift, value⟩ := quantizeRaw_of_lt high
    exact ⟨shift, value, by omega⟩
  case below32 =>
    obtain ⟨top, above⟩ := count_bounds low high
    exact ⟨top, above, le_quantizeRaw_value low high⟩
  case below48 =>
    obtain ⟨shift, value⟩ := quantizeRaw_of_le low
    exact ⟨shift, by omega, by omega⟩

/-- Settles O41: below 2^48 the window holds the count, and its lowest bit is at most the highest bit of the count. -/
theorem mostSignificantBitKept : Obligations.MostSignificantBitKept := by
  refine fun raw small => ⟨selectShift_fits small, quantizeRaw_value_of_lt small, fun h two low high => ?_⟩
  obtain rfl := hibit_eq low high
  have one_le : 1 ≤ hibit raw.toNat := (le_hibit_iff (by decide)).2 two
  have top := (div_two_pow_lt_iff _ _).1 (selectShift_fits small)
  have range := selectShift_cases raw
  exact ⟨by omega, top⟩

/-! ## The reconstructed count (R239, R241) -/

/-- Below 2^48 the reconstructed count is the count with the bits below the shift cleared. -/
theorem reconstructed_eq {raw : BitVec 64} (small : raw.toNat < 2 ^ 48) :
    (quantizeRaw raw).value.toNat * 2 ^ (quantizeRaw raw).shift.toNat =
      raw.toNat / 2 ^ (selectShift raw).toNat * 2 ^ (selectShift raw).toNat := by
  rw [quantizeRaw_value_of_lt small, quantizeRaw_shift]

/-- Settles O42: what the reconstruction drops is the remainder by 2^shift. -/
theorem resolutionBound : Obligations.ResolutionBound := by
  refine ⟨fun raw small => ?_, by decide⟩
  dsimp only
  rw [reconstructed_eq small, ← Nat.mod_eq_sub_div_mul]
  exact ⟨Nat.div_mul_le_self _ _, Nat.mod_lt _ (Nat.two_pow_pos _)⟩

/-- A power of two that a window resolves is not lost by clearing the bits below its shift. -/
theorem two_pow_le_cleared {x k s : Nat} (resolved : s ≤ k) (le : 2 ^ k ≤ x) : 2 ^ k ≤ x / 2 ^ s * 2 ^ s :=
  calc 2 ^ k = 2 ^ k / 2 ^ s * 2 ^ s := (Nat.div_mul_cancel (Nat.pow_dvd_pow 2 resolved)).symm
    _ ≤ x / 2 ^ s * 2 ^ s := Nat.mul_le_mul_right _ (Nat.div_le_div_right le)

theorem reconstructed_mono {a b : BitVec 64} (le : a ≤ b) (small : b.toNat < 2 ^ 48) :
    (quantizeRaw a).value.toNat * 2 ^ (quantizeRaw a).shift.toNat ≤
      (quantizeRaw b).value.toNat * 2 ^ (quantizeRaw b).shift.toNat := by
  have counts : a.toNat ≤ b.toNat := le
  have shifts : (selectShift a).toNat ≤ (selectShift b).toNat := selectShift_mono le
  rw [reconstructed_eq (counts.trans_lt small), reconstructed_eq small]
  rcases shifts.eq_or_lt with same | larger
  · rw [same]
    exact Nat.mul_le_mul_right _ (Nat.div_le_div_right counts)
  · obtain ⟨k, resolved, above, below⟩ := exists_two_pow_between larger
    calc a.toNat / 2 ^ (selectShift a).toNat * 2 ^ (selectShift a).toNat ≤ a.toNat := Nat.div_mul_le_self _ _
      _ ≤ 2 ^ k := above.le
      _ ≤ _ := two_pow_le_cleared resolved below

/-- Settles O44: a longer duration has no smaller count, and a larger count no smaller shift. -/
theorem shiftIsMonotone : Obligations.ShiftIsMonotone :=
  ⟨fun _ _ => selectShift_mono,
    fun _ ⟨ticksMono, _⟩ cal d₁ d₂ longer => selectShift_mono (ticksMono cal d₁ d₂ longer),
    fun _ _ => reconstructed_mono⟩

/-! ## The tightest window (R240) -/

/-- With a highest bit from 16 to 31, or at 47, the selected window ends at it, so no smaller shift leaves no bit above. -/
theorem fits_iff_selectShift_le {raw : BitVec 64} (topBit : hibit raw.toNat = (selectShift raw).toNat + 15) (s : Nat) :
    raw.toNat / 2 ^ s < 2 ^ 16 ↔ (selectShift raw).toNat ≤ s := by
  rw [div_two_pow_lt_iff, topBit]
  omega

/-- Settles O43: in each range, where the highest bit lies in the selected window. -/
theorem tightestWindow : Obligations.TightestWindow := by
  refine ⟨fun raw high => ⟨fun s => (Nat.div_le_self _ _).trans_lt high, selectShift_of_lt high⟩,
    fun raw low high => fits_iff_selectShift_le (hibit_eq_selectShift low high),
    fun raw h low high above below => ?coarser, fun raw low high => fits_iff_selectShift_le ?topBit,
    by decide, by decide, by decide⟩
  case coarser =>
    obtain rfl := hibit_eq low high
    refine ⟨fun s => ?_, by omega, by omega, ?_⟩
    · rw [div_two_pow_lt_iff]
      omega
    · rw [selectShift_of_le_hibit above, ← Nat.pow_add]
      exact congrArg (2 ^ ·) (show 32 = _ by omega)
  case topBit => rw [hibit_eq low high, selectShift_of_le (by omega)]; rfl

end Sys2Proof.Proofs.TickProperties
end

section
/-! The tick functions of 43_tick_quantizer R232 and 93 G7: a duration of 0 under any of them, the default at calibration
0, and the ESP-IDF form. -/

namespace Sys2Proof.Proofs.TickFunctions

open Sys2Proof.Machine Sys2Proof.Proofs.Scope Sys2Proof.Proofs.TickProperties

/-- Settles O45: 0 ms gives at most 1 tick, which the shift of 1 drops. -/
theorem zeroDuration : Obligations.ZeroDuration := by
  intro p ⟨_, zeroTicks⟩ cal
  have ticks_le : (p.ticksFn 0 cal).toNat ≤ 1 := zeroTicks cal
  obtain ⟨shift, value⟩ := quantizeRaw_of_lt (raw := p.ticksFn 0 cal) (by omega)
  exact ⟨shift, BitVec.eq_of_toNat_eq (value.trans (Nat.div_eq_of_lt (by omega)))⟩

theorem defaultTicksFn_cal_zero (durationMs : BitVec 32) : defaultTicksFn durationMs 0 = 0 :=
  BitVec.eq_of_toNat_eq (by simp [defaultTicksFn_toNat])

/-- Settles O49: the exact count and its bound, and calibration 0. -/
theorem defaultTicks : Obligations.DefaultTicks := by
  refine ⟨fun durationMs cal => ⟨defaultTicksFn_toNat durationMs cal, ?_⟩, fun durationMs => ?_⟩
  · rw [defaultTicksFn_toNat]
    exact defaultTicks_lt durationMs cal
  · have ticks : build.ticksFn durationMs 0 = 0 := defaultTicksFn_cal_zero durationMs
    rw [quantize, ticks]
    decide

/-- Before the division a 32-bit duration gives less than 2^61, so the ESP-IDF count never wraps (93 G7). -/
theorem espidfTicksFn_toNat (durationMs cal : BitVec 32) :
    (espidfTicksFn durationMs cal).toNat = durationMs.toNat * 1000 * 2 ^ 19 / cal.toNat := by
  have quotient_le := Nat.div_le_self (durationMs.toNat * 1000 * 2 ^ 19) cal.toNat
  rw [espidfTicksFn, BitVec.toNat_ofNat, Nat.mod_eq_of_lt (by omega)]

theorem ticksFnOk_espidfTicksFn : TicksFnOk espidfTicksFn where
  left cal d₁ d₂ longer := by
    rw [BitVec.le_def, espidfTicksFn_toNat, espidfTicksFn_toNat]
    have durations : d₁.toNat ≤ d₂.toNat := longer
    exact Nat.div_le_div_right (by omega)
  right cal := by
    rw [BitVec.le_def, espidfTicksFn_toNat]
    simp

theorem statusTableOk_12 : StatusTableOk 12 statusTable12 :=
  ⟨rfl, rfl, rfl, ⟨0b0111, rfl⟩, ⟨0b0011, rfl⟩, ⟨0b0010, rfl⟩, ⟨0b0001, rfl⟩⟩

theorem statusTableOk_11 : StatusTableOk 11 statusTable11 :=
  ⟨rfl, rfl, rfl, ⟨0b1101, rfl⟩, ⟨0b0101, rfl⟩, ⟨0b0100, rfl⟩, ⟨0b0001, rfl⟩⟩

/-- Settles O51: the ESP-IDF form, and a pattern for each state in both tables. -/
theorem alternativeParametersMeetConstraints : Obligations.AlternativeParametersMeetConstraints :=
  ⟨ticksFnOk_espidfTicksFn, espidfTicksFn_toNat, statusTableOk_12, statusTableOk_11⟩

end Sys2Proof.Proofs.TickFunctions
end

section
/-! The power-state decoder of 44_state_decoder: the window's pattern, what of a snapshot it depends on, and the snapshots
the spec names. -/

namespace Sys2Proof.Proofs.StateDecoder

open Sys2Proof.Machine Sys2Proof.Proofs.Scope Sys2Proof.Proofs.Evaluation

/-! ## The pattern (44_state_decoder R260) -/

theorem statusPattern_eq_ofNat_mod (lsb : Nat) (status : Word) :
    statusPattern lsb status = BitVec.ofNat 4 (status.toNat / 2 ^ lsb % 16) := by
  rw [statusPattern, slice, Nat.add_sub_cancel_left]
  rfl

/-- Reduction to 4 bits is the pattern's own width. -/
theorem statusPattern_eq_ofNat (lsb : Nat) (status : Word) :
    statusPattern lsb status = BitVec.ofNat 4 (status.toNat / 2 ^ lsb) := by
  rw [statusPattern_eq_ofNat_mod]
  exact BitVec.eq_of_toNat_eq (by simp)

theorem statusPattern_zero (lsb : Nat) : statusPattern lsb 0 = 0 := by simp [statusPattern_eq_ofNat]

theorem statusPattern_running (lsb : Nat) : statusPattern lsb 0x00006000 = runningPattern lsb :=
  statusPattern_eq_ofNat lsb _

section Window

variable {lsb : Nat} (window : lsb = 11 ∨ lsb = 12 ∨ lsb = 13)
include window

/-- At the positions R260 allows the mask covers the whole window: none of its ones is shifted out of the word. -/
theorem slice_statusMask : slice (statusMask lsb) (lsb + 3) lsb = 2 ^ (lsb + 3 - lsb + 1) - 1 := by
  rcases window with rfl | rfl | rfl <;> rfl

theorem statusPattern_statusMask : statusPattern lsb (statusMask lsb) = 0b1111 := by
  rw [statusPattern, slice_statusMask window, Nat.add_sub_cancel_left]
  rfl

/-- Snapshots equal under the mask have the same pattern. -/
theorem statusPattern_congr {a b : Word} (masked : a &&& statusMask lsb = b &&& statusMask lsb) :
    statusPattern lsb a = statusPattern lsb b := by
  have ones := slice_statusMask window
  exact congrArg (BitVec.ofNat 4) ((slice_of_mask masked ones).trans (slice_of_mask rfl ones).symm)

end Window

/-! ## The snapshots of a build (44_state_decoder R262, R264, R268) -/

/-- Settles O53: both ports of U3 are made from the pattern and the masked snapshot. -/
theorem bitsOutsideWindowIgnored : Obligations.BitsOutsideWindowIgnored := by
  intro p params a b masked
  rw [decodeState, decodeState, statusPattern_congr params.window masked, masked]

/-- Settles O55: R261 puts the patterns of the three snapshots into every table, or keeps them out. -/
theorem sourceStatusExamples : Obligations.SourceStatusExamples := by
  intro p params
  obtain ⟨idle, running, allOnes, -⟩ := params.table
  refine ⟨decodeState_of_some (d := .running) ?_, decodeState_of_some (d := .idle) ?_, fun status masked => ?unknown⟩
  · rw [statusPattern_running, running]
  · rw [statusPattern_zero, idle]
  case unknown =>
    have pattern : statusPattern p.statusWindowLsb status = 0b1111 :=
      (statusPattern_congr params.window (masked.trans BitVec.and_self.symm)).trans
        (statusPattern_statusMask params.window)
    rw [decodeState_of_none (by rw [pattern, allOnes]), masked]

/-- Settles O52: one case per entry a table can have. -/
theorem decodeStateFunction : Obligations.DecodeStateFunction := by
  intro p status
  dsimp only
  rw [← statusPattern_eq_ofNat_mod]
  exact ⟨decodeState_of_some, decodeState_of_some, decodeState_of_some, decodeState_of_some, decodeState_of_some,
    decodeState_of_some, decodeState_of_none⟩

/-! ## The default build (44_state_decoder R265) -/

/-- Settles O56: the table's 16 patterns; the first snapshot is 0 outside the window, the second has no row. -/
theorem referenceTableRows : Obligations.ReferenceTableRows := by
  refine ⟨by decide, ?outsideOnly, decodeState_of_none rfl⟩
  case outsideOnly =>
    obtain ⟨-, zero, -⟩ := sourceStatusExamples build paramsValid_build
    rw [bitsOutsideWindowIgnored build paramsValid_build 0xFFFE1FFF 0 (by decide)]
    exact zero

end Sys2Proof.Proofs.StateDecoder
end

section
/-! Outcomes of an evaluation (60_exceptions section 1): it completes with a value (R280), and U1's value is an instruction
or the first reason that applies (R282), here for words the vectors name. -/

namespace Sys2Proof.Proofs.Outcomes

open Sys2Proof.Machine Sys2Proof.Claims Sys2Proof.Proofs.Evaluation Sys2Proof.Proofs.Reasons
  Sys2Proof.Proofs.CanonicalWords

/-- Settles O22: `step_eq` names the state the step answers, for a word that decodes and for one that fails. -/
theorem stepAlwaysCompletes : Obligations.StepAlwaysCompletes :=
  fun s => ⟨_, step_eq s⟩

theorem decode_of_canonical {strict : Bool} {w : Word} {i : Instr} (canonical : i.wellFormed = true ∧ encode i = w) :
    decode strict w = .ok i := by
  obtain ⟨wf, rfl⟩ := canonical
  exact decode_encode strict wf

/-- Settles O1: each accepted word is its instruction's canonical word, and each failing word meets the condition of its
reason in 30_encoding R105. -/
theorem sampleWordsDecode : Obligations.SampleWordsDecode := by
  have selector : BadSelector 0x70E00040 := .inl (by decide)
  have mux : BadValue 0x50000100 := .inl (by decide)
  have wake : BadValue 0x90000002 := .inr (by decide)
  have store : BadSubopcode 0x66000000 := .inl (by decide)
  refine ⟨?_, ?_, ?_, ?_, ?_, ?_, ?_, ?_, ?_, ?_, ?_, ?_, decode_badSelector_iff.2 selector, decode_badValue_iff.2 mux,
    decode_badValue_iff.2 wake, decode_badSubopcode_iff.2 store⟩
  all_goals exact decode_of_canonical (by decide)

end Sys2Proof.Proofs.Outcomes
end

section
/-! The machine after reset (70_reset_and_hazards R310): there is no reset value, so its ports are those of one evaluation
of its inputs. -/

namespace Sys2Proof.Proofs.Reset

open Sys2Proof.Machine Sys2Proof.Safety

/-- The ports after reset stand for the inputs held with them, with no evaluation before. -/
theorem settled_reset : Settled State.reset := rfl

/-- Settles O26: the reset state is settled, and the ports of a settled state are legal whatever inputs it holds. -/
theorem resetMeetsInvariant : Obligations.ResetMeetsInvariant :=
  Evaluation.inv_of_settled settled_reset

end Sys2Proof.Proofs.Reset
end

section
/-! The reads of the two BX target fields (41_decode_alu_branch section 2.1, 92 D9): U1 reports both fields, and the record's
addressing mode alone decides which of the two reads answers. -/

namespace Sys2Proof.Proofs.BranchTargets

open Sys2Proof.Machine

/-- After a meaning, the read of the record's fields answers the instruction's record. -/
theorem exec_readFields {i : Instr} {s : State} {d : Decoded} (fields : record s.ports.w i = d) :
    ∃ t, exec i s = .next t ∧ readFields t.out.u1 = .ok d := by
  subst fields
  exact ⟨_, exec_eq_driveOk i s, U1Out.whenOk_ok ..⟩

section Reads

variable {i : Instr} {s : State} {cond : BxCond} {dreg : BitVec 2} {addr : BitVec 11}

/-- In register mode the slot is the unused field, whatever the condition. -/
theorem targetReads_of_reg (fields : record s.ports.w i = .bx cond .reg dreg addr) :
    ∃ t, exec i s = .next t ∧ readTargetReg t.out.u1 = .ok dreg ∧
      readTargetAddr t.out.u1 = .error .unusedTargetField := by
  obtain ⟨t, meaning, answered⟩ := exec_readFields fields
  exact ⟨t, meaning, by rw [readTargetReg, answered], by rw [readTargetAddr, answered]⟩

/-- In immediate mode the register is the unused field, whatever the condition. -/
theorem targetReads_of_imm (fields : record s.ports.w i = .bx cond .imm dreg addr) :
    ∃ t, exec i s = .next t ∧ readTargetAddr t.out.u1 = .ok addr ∧
      readTargetReg t.out.u1 = .error .unusedTargetField := by
  obtain ⟨t, meaning, answered⟩ := exec_readFields fields
  exact ⟨t, meaning, by rw [readTargetAddr, answered], by rw [readTargetReg, answered]⟩

end Reads

/-- Settles O28: the three rows of a mode differ in the condition of their record, which no target read looks at. -/
theorem branchTargetReads : Obligations.BranchTargetReads := by
  intro s dreg addr i regRow j immRow
  simp only [List.mem_cons, List.not_mem_nil, or_false] at regRow immRow
  refine ⟨?register, ?immediate⟩
  case register =>
    rcases regRow with rfl | rfl | rfl
    · exact targetReads_of_reg (cond := .direct) rfl
    · exact targetReads_of_reg (cond := .zero) rfl
    · exact targetReads_of_reg (cond := .ovf) rfl
  case immediate =>
    rcases immRow with rfl | rfl | rfl
    · exact targetReads_of_imm (cond := .direct) rfl
    · exact targetReads_of_imm (cond := .zero) rfl
    · exact targetReads_of_imm (cond := .ovf) rfl

end Sys2Proof.Proofs.BranchTargets
end
